-- ==== Sys2Proof/Word.lean ====
section
/-! DEFINITION. The two widths of the machine: an 8-bit register field or memory cell and a 16-bit register field
or address (spec 00 R6, R8). Arithmetic on them wraps, as the width invariant 10 R29 asks. -/

namespace Sys2Proof

/-- An 8-bit value: a register field, a memory cell, an instruction byte (R6). -/
abbrev Byte := BitVec 8

/-- A 16-bit value: a register field or an address (R6). -/
abbrev Word := BitVec 16

end Sys2Proof
end

