-- ==== Sys2Proof/Machine/Bytes.lean ====
section
/-! DEFINITION. The bit-field, byte-order and sign-extension helpers that the decoder and the machine share. -/

namespace Sys2Proof.Machine

/-- `hi ++ lo` (00 R8). -/
def wordOf (hi lo : Byte) : Word := hi ++ lo

/-- `w[15:8]` (00 R8). -/
def hiByte (w : Word) : Byte := w.extractLsb' 8 8

/-- `w[7:0]` (00 R8). -/
def loByte (w : Word) : Byte := w.extractLsb' 0 8

/-- `sext_8(b)` (00 R9, 30 R55). -/
def sext8 (b : Byte) : Int := b.toInt

/-- The byte that holds a displacement (30 R55). -/
def displacementByte (x : Int) : Byte := BitVec.ofInt 8 x

/-- A 16-bit value plus a signed displacement, modulo 65536 (20 R37, 30 R55). -/
def addDisplacement (w : Word) (x : Int) : Word := w + BitVec.ofInt 16 x

/-- Field `x` of an opcode byte, bits 7..6 (30 R48). -/
def opX (op : Byte) : BitVec 2 := op.extractLsb' 6 2

/-- Field `y`, bits 5..3 (30 R48). -/
def opY (op : Byte) : BitVec 3 := op.extractLsb' 3 3

/-- Field `z`, bits 2..0 (30 R48). -/
def opZ (op : Byte) : BitVec 3 := op.extractLsb' 0 3

/-- Field `p`, bits 5..4 (30 R48). -/
def opP (op : Byte) : BitVec 2 := op.extractLsb' 4 2

/-- Field `q`, bit 3 (30 R48). -/
def opQ (op : Byte) : BitVec 1 := op.extractLsb' 3 1

end Sys2Proof.Machine
end

