-- ==== Sys2Proof/Config.lean ====
section
/-! DEFINITION. The open parameters of spec 00 R7. They are fixed for one machine and ride in `State.cfg`, which no step
writes (log entry 1), so that a claim about every state holds for every setting and a claim can name a setting. -/

namespace Sys2Proof

/-- The five rotate and shift operations of 43 R86. -/
inductive RotOp where
  | rlc | rrc | rl | rr | sra
deriving DecidableEq, Repr

/-- `UNLISTED_POLICY` (R7, 93 U1): what an encoding with no row of the opcode table does. -/
inductive UnlistedPolicy where
  /-- The unknown-opcode rule 46 R121. -/
  | unknownNop
  /-- The encoding is given no meaning. -/
  | refuse
deriving DecidableEq, Repr

/-- `PC_OVERFLOW` (R7, 50 R140): what a sequential advance past 0xFFFF does. -/
inductive PcOverflow where
  /-- `PC` wraps and the boundary guard never fires. -/
  | wrap
  /-- `pc_left_range` is set and the run ends before the next fetch. -/
  | stop
deriving DecidableEq, Repr

/-- The open parameters of R7, under the spec's names. -/
structure Config where
  unlisted : UnlistedPolicy
  pcOverflow : PcOverflow
  /-- `ROT_CARRY_UNTOUCHED`: the operations that leave C as it was (43 R86). Only membership matters. -/
  rotCarryUntouched : List RotOp
  runEntryCycles : Nat
  cycLdIdxNn : Nat
  cycStIdxA : Nat
  cycSubIdx : Nat
deriving DecidableEq, Repr

/-- The defaults of the table of R7. -/
def Config.default : Config where
  unlisted := .unknownNop
  pcOverflow := .wrap
  rotCarryUntouched := []
  runEntryCycles := 0
  cycLdIdxNn := 14
  cycStIdxA := 19
  cycSubIdx := 19

end Sys2Proof
end

