-- ==== Sys2Proof/Syntax.lean ====
section
/-! DEFINITION. The abstract syntax: one constructor of `Instr` per row of spec/opcode_table.json (30 R62, R179), with the
operands the row leaves open. `n` and `nn` are the immediates of 30 R53 and R54, `e` and `d` the signed displacements of
30 R55, written as the numbers they stand for (log entry 14). The register, pair, index-register and level names that the
other files share stand here too. -/

namespace Sys2Proof

/-- The seven 8-bit registers an operand code names (30 R50, codes other than 110). -/
inductive Reg8 where
  | b | c | d | e | h | l | a
deriving DecidableEq, Repr

/-- The four 16-bit operands of 30 R51. -/
inductive Reg16 where
  | bc | de | hl | sp
deriving DecidableEq, Repr

/-- The two index registers (10 R13). -/
inductive IndexReg where
  | ix | iy
deriving DecidableEq, Repr

/-- The five levels of the dispatch tree (30 R49). -/
inductive Level where
  | u | cb | ed | xy | xycb
deriving DecidableEq, Repr

/-- The instructions, one constructor per row of the opcode table, in its order. -/
inductive Instr where
  -- Unprefixed instructions (30 R56).
  | nop | ldBcNn (nn : Word) | ldDeNn (nn : Word) | ldHlNn (nn : Word) | ldSpNn (nn : Word) | ldIndBcA
  | ldIndDeA | ldBN (n : Byte) | ldCN (n : Byte) | ldDN (n : Byte) | ldEN (n : Byte) | ldHN (n : Byte)
  | ldLN (n : Byte) | ldAN (n : Byte) | jrE (e : Int) | scf | ldIndHlB | ldIndHlC | ldIndHlD | ldIndHlE
  | ldIndHlH | ldIndHlL | ldIndHlA | halt | addAB | addAC | addAD | addAE | addAH | addAL | addAA | subB
  | subC | subD | subE | subH | subL | subA | jpNn (nn : Word) | ret | callNn (nn : Word)
  -- Prefix 0xCB: rotates, shift and bit tests (30 R57).
  | rlcB | rlcC | rlcD | rlcE | rlcH | rlcL | rlcIndHl | rlcA | rrcB | rrcC | rrcD | rrcE | rrcH | rrcL
  | rrcIndHl | rrcA | rlB | rlC | rlD | rlE | rlH | rlL | rlIndHl | rlA | rrB | rrC | rrD | rrE | rrH | rrL
  | rrIndHl | rrA | sraB | sraC | sraD | sraE | sraH | sraL | sraIndHl | sraA | bit0B | bit0C | bit0D | bit0E
  | bit0H | bit0L | bit0IndHl | bit0A | bit1B | bit1C | bit1D | bit1E | bit1H | bit1L | bit1IndHl | bit1A
  | bit2B | bit2C | bit2D | bit2E | bit2H | bit2L | bit2IndHl | bit2A | bit3B | bit3C | bit3D | bit3E | bit3H
  | bit3L | bit3IndHl | bit3A | bit4B | bit4C | bit4D | bit4E | bit4H | bit4L | bit4IndHl | bit4A | bit5B
  | bit5C | bit5D | bit5E | bit5H | bit5L | bit5IndHl | bit5A | bit6B | bit6C | bit6D | bit6E | bit6H | bit6L
  | bit6IndHl | bit6A | bit7B | bit7C | bit7D | bit7E | bit7H | bit7L | bit7IndHl | bit7A
  -- Prefix 0xED: 16-bit arithmetic with carry (30 R58).
  | sbcHlBc | sbcHlDe | sbcHlHl | sbcHlSp | adcHlBc | adcHlDe | adcHlHl | adcHlSp
  -- Prefixes 0xDD and 0xFD: index registers (30 R59, R60).
  | ldIxNn (nn : Word) | ldIndIxA (d : Int) | subIndIx (d : Int) | bit0IndIx (d : Int) | bit1IndIx (d : Int)
  | bit2IndIx (d : Int) | bit3IndIx (d : Int) | bit4IndIx (d : Int) | bit5IndIx (d : Int)
  | bit6IndIx (d : Int) | bit7IndIx (d : Int) | ldIyNn (nn : Word) | ldIndIyA (d : Int) | subIndIy (d : Int)
  | bit0IndIy (d : Int) | bit1IndIy (d : Int) | bit2IndIy (d : Int) | bit3IndIy (d : Int)
  | bit4IndIy (d : Int) | bit5IndIy (d : Int) | bit6IndIy (d : Int) | bit7IndIy (d : Int)
deriving DecidableEq, Repr

end Sys2Proof
end

