-- ==== Sys2Proof/Machine/State.lean ====
section
/-! DEFINITION. The state of the machine: every piece of state the spec's table of 10 §1 lists, the bit `pc_left_range` of
50 R140, the run status the engine hands its caller (50 R139, 20 R44), and the open parameters (00 R7). Plain data. -/

namespace Sys2Proof.Machine

/-- One set of 8-bit registers (10 R10, R17); the machine has a primary and a shadow one (10 R12). -/
structure RegSet where
  a : Byte
  f : Byte
  b : Byte
  c : Byte
  d : Byte
  e : Byte
  h : Byte
  l : Byte
deriving DecidableEq, Repr

/-- Why a run returned (50 R139). -/
inductive StopReason where
  | budgetExhausted | halt | addressOutOfRange
deriving DecidableEq, Repr

/-- Where the machine stands between its host and its engine: the phase of the arbiter (20 R44) and, after a run, the reason
`run` returned (50 R139). No instruction reads it; it is no halted state (50 R147; log entry 4). -/
inductive RunStatus where
  /-- Initialised, no run yet: the loader may hold the memory. -/
  | notStarted
  /-- A run is in progress: the engine alone holds the memory. -/
  | inProgress
  /-- Between runs. -/
  | returned (reason : StopReason)
deriving DecidableEq, Repr

/-- Memory as address and byte pairs in the canonical form of `Memory.wf`; an address that is not listed holds 0 (10 R28). -/
abbrev Memory := List Host.Cell

/-- The whole state. -/
structure State where
  /-- `A F B C D E H L` (10 R10, R17). -/
  regs : RegSet
  /-- `A' F' B' C' D' E' H' L'` (10 R12). -/
  shadow : RegSet
  /-- `IX` (10 R13). -/
  ix : Word
  /-- `IY` (10 R13). -/
  iy : Word
  /-- `SP` (10 R14). -/
  sp : Word
  /-- `PC` (10 R15). -/
  pc : Word
  /-- `I` (10 R21). -/
  i : Byte
  /-- `R`, values 0 to 127 (10 R22). -/
  r : Byte
  /-- `IFF` (10 R23). -/
  iff : Bool
  /-- `pc_left_range`, used under `PC_OVERFLOW = stop` only (50 R140). -/
  pcLeftRange : Bool
  /-- `cyc` (10 R24). -/
  cyc : Nat
  /-- `unk_count` (10 R25). -/
  unkCount : Nat
  /-- The 65 536 cells (10 R26). -/
  mem : Memory
  /-- The run status (20 R44, 50 R139). -/
  run : RunStatus
  /-- The open parameters (00 R7); no step writes them. -/
  cfg : Config
deriving DecidableEq, Repr

/-- The machine stops with a fault: never. The hardware has no fault mechanism (60 R150, 93 part 1), so the type has no
constructor and no one raises it (safe; log entry 15). -/
inductive Fault where
deriving DecidableEq, Repr

/-- Reasons a step is given no meaning. -/
inductive Refusal where
  /-- Raised by the dispatch alone, for an instruction without a meaning; no arm does (safe). -/
  | notModelled (mnemonic : String)
  /-- Raised by the step for an encoding with no row of the opcode table, at this level of the dispatch tree, when
  `UNLISTED_POLICY` is `refuse` (00 R7, 93 U1); never under the default (safe). -/
  | unlistedEncoding (lv : Level)
deriving DecidableEq, Repr

/-- Every register of a set at 0. -/
def RegSet.zero : RegSet where
  a := 0
  f := 0
  b := 0
  c := 0
  d := 0
  e := 0
  h := 0
  l := 0

/-- The reset state (10 R28, 70 R170) of a machine with the given parameters. -/
def State.resetWith (cfg : Config) : State where
  regs := { RegSet.zero with f := 0x40 }
  shadow := RegSet.zero
  ix := 0xFFFF
  iy := 0xFFFF
  sp := 0x0000
  pc := 0x0000
  i := 0
  r := 1
  iff := false
  pcLeftRange := false
  cyc := 0
  unkCount := 0
  mem := []
  run := .notStarted
  cfg := cfg

/-- The machine right after reset (10 R28, 70 R170), with the parameters at their defaults (00 R7). -/
def State.reset : State := State.resetWith Config.default

end Sys2Proof.Machine
end

