-- ==== Sys2Proof/Machine/Ops.lean ====
section
/-! DEFINITION. The named operations over registers and memory that the meanings share: register access, the memory
interface, the two ways `PC` moves, the cycle total, the end of a run, and the one condition the engine raises. The
hardware takes no exception and returns from none (60 R157, R158): `raiseUnknownOpcode` is the whole of what happens on an
encoding without a handler. -/

namespace Sys2Proof.Machine

/-- What a meaning answers. -/
abbrev Result := Host.Outcome State Fault Refusal

/-! ### Registers -/

/-- Read of an 8-bit register of a set (30 R50). -/
def RegSet.get (g : RegSet) (r : Reg8) : Byte :=
  match r with
  | .b => g.b
  | .c => g.c
  | .d => g.d
  | .e => g.e
  | .h => g.h
  | .l => g.l
  | .a => g.a

/-- Write of an 8-bit register of a set (30 R50). -/
def RegSet.set (g : RegSet) (r : Reg8) (v : Byte) : RegSet :=
  match r with
  | .b => { g with b := v }
  | .c => { g with c := v }
  | .d => { g with d := v }
  | .e => { g with e := v }
  | .h => { g with h := v }
  | .l => { g with l := v }
  | .a => { g with a := v }

/-- `r8[i]` for a register code (00 R9). -/
def State.reg8 (s : State) (r : Reg8) : Byte := s.regs.get r

/-- `r8[i] <- v` for a register code (00 R9). -/
def State.setReg8 (s : State) (r : Reg8) (v : Byte) : State := { s with regs := s.regs.set r v }

/-- `F <- v` (00 R9). -/
def State.setF (s : State) (v : Byte) : State := { s with regs := { s.regs with f := v } }

/-- `HL` (10 R11). -/
def State.hl (s : State) : Word := wordOf s.regs.h s.regs.l

/-- `rp[i]` (00 R9, 30 R51); a pair is its two halves, the first named the high one (10 R11). -/
def State.reg16 (s : State) (p : Reg16) : Word :=
  match p with
  | .bc => wordOf s.regs.b s.regs.c
  | .de => wordOf s.regs.d s.regs.e
  | .hl => s.hl
  | .sp => s.sp

/-- `rp[i] <- w`: writing a pair writes both halves (10 R11). -/
def State.setReg16 (s : State) (p : Reg16) (w : Word) : State :=
  match p with
  | .bc => { s with regs := { s.regs with b := hiByte w, c := loByte w } }
  | .de => { s with regs := { s.regs with d := hiByte w, e := loByte w } }
  | .hl => { s with regs := { s.regs with h := hiByte w, l := loByte w } }
  | .sp => { s with sp := w }

/-- The selected index register (47 R125). -/
def State.index (s : State) (x : IndexReg) : Word :=
  match x with
  | .ix => s.ix
  | .iy => s.iy

/-- A write of the selected index register (47 R126, R127). -/
def State.setIndex (s : State) (x : IndexReg) (w : Word) : State :=
  match x with
  | .ix => { s with ix := w }
  | .iy => { s with iy := w }

/-! ### Memory -/

/-- `MemRead(addr, 1)` (20 R30). -/
def State.memRead (s : State) (a : Word) : Byte := s.mem.read a.toNat

/-- `MemWrite(addr, 1, v)` (20 R31). -/
def State.memWrite (s : State) (a : Word) (v : Byte) : State := { s with mem := s.mem.write a.toNat v }

/-- `MemRead(addr, 2)`: low byte at `addr`, high byte at the next address, modulo 65536 (20 R33). -/
def State.memRead16 (s : State) (a : Word) : Word := wordOf (s.memRead (a + 1)) (s.memRead a)

/-- `MemWrite(addr, 2, w)`: the low byte first, then the high byte (20 R33). -/
def State.memWrite16 (s : State) (a : Word) (w : Word) : State :=
  (s.memWrite a (loByte w)).memWrite (a + 1) (hiByte w)

/-! ### The program counter, the cycle total, the end of a run -/

/-- `pc_left_range` after a sequential advance by `len`: set, and kept, under `PC_OVERFLOW = stop` once
`pc0 + len > 65535` (10 R16, 50 R140). -/
def State.leavesRange (s : State) (len : Nat) : Bool :=
  s.pcLeftRange || (decide (s.cfg.pcOverflow = .stop) && decide (65535 < s.pc.toNat + len))

/-- `PC <- (pc0 + len) mod 65536`, the advance of an instruction that is no control transfer (10 R16). -/
def State.advance (s : State) (len : Nat) : State :=
  { s with pc := s.pc + BitVec.ofNat 16 len, pcLeftRange := s.leavesRange len }

/-- `pc <- target` (10 R16, 45 R105). -/
def State.jump (s : State) (target : Word) : State := { s with pc := target }

/-- `cyc <- cyc + n` (10 R24). -/
def State.charge (s : State) (n : Nat) : State := { s with cyc := s.cyc + n }

/-- The last two actions of a leaf operation that is no control transfer (50 R137 items 4 and 5). -/
def State.retire (s : State) (len cost : Nat) : State := (s.advance len).charge cost

/-- `stop(reason)`: the run returns to its caller (50 R139). -/
def State.endRun (s : State) (reason : StopReason) : State := { s with run := .returned reason }

/-! ### The one condition the engine raises -/

/-- How many bytes an unknown opcode takes, by its level (46 R122). -/
def unknownLength (lv : Level) : Nat :=
  match lv with
  | .u => 1
  | .cb => 2
  | .ed => 2
  | .xy => 2
  | .xycb => 4

/-- `unk_count <- unk_count + 1` (10 R25). -/
def State.countUnknown (s : State) : State := { s with unkCount := s.unkCount + 1 }

/-- `raise UnknownOpcode(len)` (46 R121, 60 R151): counted, skipped and charged 4 cycles, and the run goes on; given no
meaning under `UNLISTED_POLICY = refuse` (93 U1). -/
def raiseUnknownOpcode (lv : Level) (s : State) : Result :=
  match s.cfg.unlisted with
  | .unknownNop => .next (s.countUnknown.retire (unknownLength lv) 4)
  | .refuse => .refused (.unlistedEncoding lv)

end Sys2Proof.Machine
end

