-- ==== Sys2Proof/Machine/Flags.lean ====
section
/-! DEFINITION. The flags byte and every computation that makes one: the two helpers of 10 R19 and R20, the 8-bit and 16-bit
ALU functions of 41 R73 and 42 R80, and the rotates of 43 R86. No flag is ever undefined (93 U6). -/

namespace Sys2Proof.Machine

/-! ### The masks of 10 R17 -/

def maskS : Byte := 0x80
def maskZ : Byte := 0x40
def maskH : Byte := 0x10
def maskN : Byte := 0x02
def maskC : Byte := 0x01

/-- A mask where a condition holds, 0 elsewhere. -/
def flagIf (p : Bool) (mask : Byte) : Byte := if p then mask else 0

/-- `flag(C)` (00 R9). -/
def State.carry (s : State) : Bool := s.regs.f.getLsbD 0

/-! ### The helpers -/

/-- `SZ8(v)` (10 R19). -/
def sz8 (v : Byte) : Byte := flagIf (v.getLsbD 7) maskS ||| flagIf (decide (v = 0)) maskZ

/-- `SZ16(w)` (10 R19). -/
def sz16 (w : Word) : Byte := flagIf (w.getLsbD 15) maskS ||| flagIf (decide (w = 0)) maskZ

/-- `BITF(f, v, b)` (10 R20). -/
def bitf (f v : Byte) (b : Fin 8) : Byte :=
  (f &&& ~~~(maskS ||| maskZ ||| maskH)) ||| maskH
    ||| flagIf (!v.getLsbD b) maskZ
    ||| flagIf (decide (b = 7) && v.getLsbD 7) maskS

/-- The flags byte after `SCF` (46 R117). -/
def scfFlags (f : Byte) : Byte := (f &&& ~~~(maskH ||| maskN)) ||| maskC

/-! ### 8-bit arithmetic (41 R73) -/

/-- Bit 4 of the exclusive or of the two operands and the result. -/
def half8 (a b res : Byte) : Bool := decide ((a ^^^ b ^^^ res) &&& 0x10 ≠ 0)

/-- `ADD8(a, b)`: the result and the complete flags byte. -/
def add8 (a b : Byte) : Byte × Byte :=
  let sum := a.toNat + b.toNat
  let res := BitVec.ofNat 8 sum
  (res, sz8 res ||| flagIf (half8 a b res) maskH ||| flagIf (decide (255 < sum)) maskC)

/-- `SUB8(a, b)`: the result and the complete flags byte. -/
def sub8 (a b : Byte) : Byte × Byte :=
  let res := BitVec.ofNat 8 (a.toNat + 256 - b.toNat)
  (res, sz8 res ||| flagIf (half8 a b res) maskH ||| maskN ||| flagIf (decide (a.toNat < b.toNat)) maskC)

/-! ### 16-bit arithmetic with carry (42 R80) -/

/-- Bit 12 of the exclusive or of the two operands and the result. -/
def half16 (a b res : Word) : Bool := decide ((a ^^^ b ^^^ res) &&& 0x1000 ≠ 0)

/-- `ADC16(a, b, c)`: the result and the complete flags byte. -/
def adc16 (a b : Word) (c : Bool) : Word × Byte :=
  let sum := a.toNat + b.toNat + c.toNat
  let res := BitVec.ofNat 16 sum
  (res, sz16 res ||| flagIf (half16 a b res) maskH ||| flagIf (decide (65535 < sum)) maskC)

/-- `SBC16(a, b, c)`: the result and the complete flags byte. -/
def sbc16 (a b : Word) (c : Bool) : Word × Byte :=
  let diff : Int := (a.toNat : Int) - b.toNat - c.toNat
  let res := BitVec.ofInt 16 diff
  (res, sz16 res ||| flagIf (half16 a b res) maskH ||| maskN ||| flagIf (decide (diff < 0)) maskC)

/-! ### Rotates and shift (43 R86) -/

/-- A bit as an 8-bit value, 0 or 1. -/
def bitValue (p : Bool) : Byte := if p then 1 else 0

/-- The result and the shifted-out bit of an operation on `v` with old carry `c` (43 R86). -/
def rotate (op : RotOp) (v : Byte) (c : Bool) : Byte × Bool :=
  match op with
  | .rlc => (v <<< 1 ||| bitValue (v.getLsbD 7), v.getLsbD 7)
  | .rrc => (v >>> 1 ||| bitValue (v.getLsbD 0) <<< 7, v.getLsbD 0)
  | .rl => (v <<< 1 ||| bitValue c, v.getLsbD 7)
  | .rr => (v >>> 1 ||| bitValue c <<< 7, v.getLsbD 0)
  | .sra => (v >>> 1 ||| v &&& 0x80, v.getLsbD 0)

/-- `ROTFLAGS(op, res, co, c_old)` (43 R86), `untouched` being `ROT_CARRY_UNTOUCHED`. -/
def rotFlags (untouched : List RotOp) (op : RotOp) (res : Byte) (co cOld : Bool) : Byte :=
  sz8 res ||| flagIf (if op ∈ untouched then cOld else co) maskC

end Sys2Proof.Machine
end

