-- ==== Sys2Proof/Machine/Arith16.lean ====
section
/-! DEFINITION. 16-bit add and subtract with carry (42 R80 to R83). -/

namespace Sys2Proof.Machine

/-- `HL <- res; F <- f` (R81, R82). -/
def State.setHLF (s : State) (rf : Word × Byte) : State := (s.setReg16 .hl rf.1).setF rf.2

/-- The body of `ADC HL,rr` (R81). -/
def adcPair (p : Reg16) (s : State) : State := (s.setHLF (adc16 s.hl (s.reg16 p) s.carry)).retire 2 15

/-- The body of `SBC HL,rr` (R82). -/
def sbcPair (p : Reg16) (s : State) : State := (s.setHLF (sbc16 s.hl (s.reg16 p) s.carry)).retire 2 15

/-- `SBC HL,BC` (R82). -/
def execSbcHlBc (s : State) : Result := .next (sbcPair .bc s)

/-- `SBC HL,DE` (R82). -/
def execSbcHlDe (s : State) : Result := .next (sbcPair .de s)

/-- `SBC HL,HL` (R82). -/
def execSbcHlHl (s : State) : Result := .next (sbcPair .hl s)

/-- `SBC HL,SP` (R82). -/
def execSbcHlSp (s : State) : Result := .next (sbcPair .sp s)

/-- `ADC HL,BC` (R81). -/
def execAdcHlBc (s : State) : Result := .next (adcPair .bc s)

/-- `ADC HL,DE` (R81). -/
def execAdcHlDe (s : State) : Result := .next (adcPair .de s)

/-- `ADC HL,HL` (R81). -/
def execAdcHlHl (s : State) : Result := .next (adcPair .hl s)

/-- `ADC HL,SP` (R81). -/
def execAdcHlSp (s : State) : Result := .next (adcPair .sp s)

end Sys2Proof.Machine
end

