-- ==== Sys2Proof/Machine/Arith8.lean ====
section
/-! DEFINITION. 8-bit add and subtract (41 R73 to R77). -/

namespace Sys2Proof.Machine

/-- `A <- res; F <- f` (R74, R75). -/
def State.setAF (s : State) (rf : Byte × Byte) : State := (s.setReg8 .a rf.1).setF rf.2

/-- The body of `ADD A,r` (R74). -/
def addReg (r : Reg8) (s : State) : State := (s.setAF (add8 (s.reg8 .a) (s.reg8 r))).retire 1 4

/-- The body of `SUB r` (R75). -/
def subReg (r : Reg8) (s : State) : State := (s.setAF (sub8 (s.reg8 .a) (s.reg8 r))).retire 1 4

/-- `ADD A,B` (R74). -/
def execAddAB (s : State) : Result := .next (addReg .b s)

/-- `ADD A,C` (R74). -/
def execAddAC (s : State) : Result := .next (addReg .c s)

/-- `ADD A,D` (R74). -/
def execAddAD (s : State) : Result := .next (addReg .d s)

/-- `ADD A,E` (R74). -/
def execAddAE (s : State) : Result := .next (addReg .e s)

/-- `ADD A,H` (R74). -/
def execAddAH (s : State) : Result := .next (addReg .h s)

/-- `ADD A,L` (R74). -/
def execAddAL (s : State) : Result := .next (addReg .l s)

/-- `ADD A,A` (R74). -/
def execAddAA (s : State) : Result := .next (addReg .a s)

/-- `SUB B` (R75). -/
def execSubB (s : State) : Result := .next (subReg .b s)

/-- `SUB C` (R75). -/
def execSubC (s : State) : Result := .next (subReg .c s)

/-- `SUB D` (R75). -/
def execSubD (s : State) : Result := .next (subReg .d s)

/-- `SUB E` (R75). -/
def execSubE (s : State) : Result := .next (subReg .e s)

/-- `SUB H` (R75). -/
def execSubH (s : State) : Result := .next (subReg .h s)

/-- `SUB L` (R75). -/
def execSubL (s : State) : Result := .next (subReg .l s)

/-- `SUB A` (R75). -/
def execSubA (s : State) : Result := .next (subReg .a s)

end Sys2Proof.Machine
end

