-- ==== Sys2Proof/Machine/Operands.lean ====
section
/-! DEFINITION. The memory operands of the instruction set and the addresses they name. The register operands are
`State.reg8` and `State.reg16`; immediates are fields of `Instr`. -/

namespace Sys2Proof.Machine

/-- The cell an instruction's memory operand names: `(BC)`, `(DE)`, `(HL)` (30 R63) and `(IX+d)`, `(IY+d)` (47 R125). -/
inductive MemOperand where
  | bc
  | de
  | hl
  | indexed (x : IndexReg) (d : Int)
deriving DecidableEq, Repr

/-- The address of a memory operand; for an indexed one `EA(XY, d) = (XY + sext_8(d)) mod 65536` (47 R125). -/
def State.address (s : State) (o : MemOperand) : Word :=
  match o with
  | .bc => s.reg16 .bc
  | .de => s.reg16 .de
  | .hl => s.reg16 .hl
  | .indexed x d => addDisplacement (s.index x) d

/-- Read of a memory operand. -/
def State.readOperand (s : State) (o : MemOperand) : Byte := s.memRead (s.address o)

/-- Write of a memory operand; no register changes (47 R125, 40 R70). -/
def State.writeOperand (s : State) (o : MemOperand) (v : Byte) : State := s.memWrite (s.address o) v

end Sys2Proof.Machine
end

