-- ==== Sys2Proof/Machine/BitTest.lean ====
section
/-! DEFINITION. Bit tests of a register and of the cell at `HL` (44 R100 to R103). -/

namespace Sys2Proof.Machine

/-- The body of `BIT b,r` (R101). -/
def testReg (b : Fin 8) (r : Reg8) (s : State) : State := (s.setF (bitf s.regs.f (s.reg8 r) b)).retire 2 12

/-- The body of `BIT b,(HL)` (R102) and of the indexed bit tests (47 R132, R133). -/
def testMem (b : Fin 8) (o : MemOperand) (len cost : Nat) (s : State) : State :=
  (s.setF (bitf s.regs.f (s.readOperand o) b)).retire len cost

/-- `BIT 0,B` (R101). -/
def execBit0B (s : State) : Result := .next (testReg 0 .b s)

/-- `BIT 0,C` (R101). -/
def execBit0C (s : State) : Result := .next (testReg 0 .c s)

/-- `BIT 0,D` (R101). -/
def execBit0D (s : State) : Result := .next (testReg 0 .d s)

/-- `BIT 0,E` (R101). -/
def execBit0E (s : State) : Result := .next (testReg 0 .e s)

/-- `BIT 0,H` (R101). -/
def execBit0H (s : State) : Result := .next (testReg 0 .h s)

/-- `BIT 0,L` (R101). -/
def execBit0L (s : State) : Result := .next (testReg 0 .l s)

/-- `BIT 0,(HL)` (R102). -/
def execBit0IndHl (s : State) : Result := .next (testMem 0 .hl 2 12 s)

/-- `BIT 0,A` (R101). -/
def execBit0A (s : State) : Result := .next (testReg 0 .a s)

/-- `BIT 1,B` (R101). -/
def execBit1B (s : State) : Result := .next (testReg 1 .b s)

/-- `BIT 1,C` (R101). -/
def execBit1C (s : State) : Result := .next (testReg 1 .c s)

/-- `BIT 1,D` (R101). -/
def execBit1D (s : State) : Result := .next (testReg 1 .d s)

/-- `BIT 1,E` (R101). -/
def execBit1E (s : State) : Result := .next (testReg 1 .e s)

/-- `BIT 1,H` (R101). -/
def execBit1H (s : State) : Result := .next (testReg 1 .h s)

/-- `BIT 1,L` (R101). -/
def execBit1L (s : State) : Result := .next (testReg 1 .l s)

/-- `BIT 1,(HL)` (R102). -/
def execBit1IndHl (s : State) : Result := .next (testMem 1 .hl 2 12 s)

/-- `BIT 1,A` (R101). -/
def execBit1A (s : State) : Result := .next (testReg 1 .a s)

/-- `BIT 2,B` (R101). -/
def execBit2B (s : State) : Result := .next (testReg 2 .b s)

/-- `BIT 2,C` (R101). -/
def execBit2C (s : State) : Result := .next (testReg 2 .c s)

/-- `BIT 2,D` (R101). -/
def execBit2D (s : State) : Result := .next (testReg 2 .d s)

/-- `BIT 2,E` (R101). -/
def execBit2E (s : State) : Result := .next (testReg 2 .e s)

/-- `BIT 2,H` (R101). -/
def execBit2H (s : State) : Result := .next (testReg 2 .h s)

/-- `BIT 2,L` (R101). -/
def execBit2L (s : State) : Result := .next (testReg 2 .l s)

/-- `BIT 2,(HL)` (R102). -/
def execBit2IndHl (s : State) : Result := .next (testMem 2 .hl 2 12 s)

/-- `BIT 2,A` (R101). -/
def execBit2A (s : State) : Result := .next (testReg 2 .a s)

/-- `BIT 3,B` (R101). -/
def execBit3B (s : State) : Result := .next (testReg 3 .b s)

/-- `BIT 3,C` (R101). -/
def execBit3C (s : State) : Result := .next (testReg 3 .c s)

/-- `BIT 3,D` (R101). -/
def execBit3D (s : State) : Result := .next (testReg 3 .d s)

/-- `BIT 3,E` (R101). -/
def execBit3E (s : State) : Result := .next (testReg 3 .e s)

/-- `BIT 3,H` (R101). -/
def execBit3H (s : State) : Result := .next (testReg 3 .h s)

/-- `BIT 3,L` (R101). -/
def execBit3L (s : State) : Result := .next (testReg 3 .l s)

/-- `BIT 3,(HL)` (R102). -/
def execBit3IndHl (s : State) : Result := .next (testMem 3 .hl 2 12 s)

/-- `BIT 3,A` (R101). -/
def execBit3A (s : State) : Result := .next (testReg 3 .a s)

/-- `BIT 4,B` (R101). -/
def execBit4B (s : State) : Result := .next (testReg 4 .b s)

/-- `BIT 4,C` (R101). -/
def execBit4C (s : State) : Result := .next (testReg 4 .c s)

/-- `BIT 4,D` (R101). -/
def execBit4D (s : State) : Result := .next (testReg 4 .d s)

/-- `BIT 4,E` (R101). -/
def execBit4E (s : State) : Result := .next (testReg 4 .e s)

/-- `BIT 4,H` (R101). -/
def execBit4H (s : State) : Result := .next (testReg 4 .h s)

/-- `BIT 4,L` (R101). -/
def execBit4L (s : State) : Result := .next (testReg 4 .l s)

/-- `BIT 4,(HL)` (R102). -/
def execBit4IndHl (s : State) : Result := .next (testMem 4 .hl 2 12 s)

/-- `BIT 4,A` (R101). -/
def execBit4A (s : State) : Result := .next (testReg 4 .a s)

/-- `BIT 5,B` (R101). -/
def execBit5B (s : State) : Result := .next (testReg 5 .b s)

/-- `BIT 5,C` (R101). -/
def execBit5C (s : State) : Result := .next (testReg 5 .c s)

/-- `BIT 5,D` (R101). -/
def execBit5D (s : State) : Result := .next (testReg 5 .d s)

/-- `BIT 5,E` (R101). -/
def execBit5E (s : State) : Result := .next (testReg 5 .e s)

/-- `BIT 5,H` (R101). -/
def execBit5H (s : State) : Result := .next (testReg 5 .h s)

/-- `BIT 5,L` (R101). -/
def execBit5L (s : State) : Result := .next (testReg 5 .l s)

/-- `BIT 5,(HL)` (R102). -/
def execBit5IndHl (s : State) : Result := .next (testMem 5 .hl 2 12 s)

/-- `BIT 5,A` (R101). -/
def execBit5A (s : State) : Result := .next (testReg 5 .a s)

/-- `BIT 6,B` (R101). -/
def execBit6B (s : State) : Result := .next (testReg 6 .b s)

/-- `BIT 6,C` (R101). -/
def execBit6C (s : State) : Result := .next (testReg 6 .c s)

/-- `BIT 6,D` (R101). -/
def execBit6D (s : State) : Result := .next (testReg 6 .d s)

/-- `BIT 6,E` (R101). -/
def execBit6E (s : State) : Result := .next (testReg 6 .e s)

/-- `BIT 6,H` (R101). -/
def execBit6H (s : State) : Result := .next (testReg 6 .h s)

/-- `BIT 6,L` (R101). -/
def execBit6L (s : State) : Result := .next (testReg 6 .l s)

/-- `BIT 6,(HL)` (R102). -/
def execBit6IndHl (s : State) : Result := .next (testMem 6 .hl 2 12 s)

/-- `BIT 6,A` (R101). -/
def execBit6A (s : State) : Result := .next (testReg 6 .a s)

/-- `BIT 7,B` (R101). -/
def execBit7B (s : State) : Result := .next (testReg 7 .b s)

/-- `BIT 7,C` (R101). -/
def execBit7C (s : State) : Result := .next (testReg 7 .c s)

/-- `BIT 7,D` (R101). -/
def execBit7D (s : State) : Result := .next (testReg 7 .d s)

/-- `BIT 7,E` (R101). -/
def execBit7E (s : State) : Result := .next (testReg 7 .e s)

/-- `BIT 7,H` (R101). -/
def execBit7H (s : State) : Result := .next (testReg 7 .h s)

/-- `BIT 7,L` (R101). -/
def execBit7L (s : State) : Result := .next (testReg 7 .l s)

/-- `BIT 7,(HL)` (R102). -/
def execBit7IndHl (s : State) : Result := .next (testMem 7 .hl 2 12 s)

/-- `BIT 7,A` (R101). -/
def execBit7A (s : State) : Result := .next (testReg 7 .a s)

end Sys2Proof.Machine
end

