-- ==== Sys2Proof/Machine/Control.lean ====
section
/-! DEFINITION. Control transfer (45 R105 to R111). No flag changes, and none sets `pc_left_range` (R105, 50 R140). -/

namespace Sys2Proof.Machine

/-- `CALL`'s push onto the descending stack: the low byte at the new `SP`, then the high byte (R108). -/
def State.push (s : State) (w : Word) : State := { s.memWrite16 (s.sp - 2) w with sp := s.sp - 2 }

/-- `RET`'s step past the two bytes it reads (R109). -/
def State.pop (s : State) : State := { s with sp := s.sp + 2 }

/-- `JR e` (R107). -/
def execJrE (e : Int) (s : State) : Result := .next ((s.jump (addDisplacement (s.pc + 2) e)).charge 12)

/-- `JP nn` (R106). -/
def execJpNn (nn : Word) (s : State) : Result := .next ((s.jump nn).charge 10)

/-- `RET` (R109). -/
def execRet (s : State) : Result := .next ((s.pop.jump (s.memRead16 s.sp)).charge 10)

/-- `CALL nn` (R108). -/
def execCallNn (nn : Word) (s : State) : Result := .next (((s.push (s.pc + 3)).jump nn).charge 17)

end Sys2Proof.Machine
end

