-- ==== Sys2Proof/Machine/Index.lean ====
section
/-! DEFINITION. Index-register instructions (47 R125 to R133). Three costs are open parameters (R125). -/

namespace Sys2Proof.Machine

/-- The body of `LD IX,nn` and `LD IY,nn` (R126, R127). -/
def loadIndex (x : IndexReg) (nn : Word) (s : State) : State := (s.setIndex x nn).retire 4 s.cfg.cycLdIdxNn

/-- The body of `LD (IX+d),A` and `LD (IY+d),A` (R128, R129). -/
def storeIndexed (x : IndexReg) (d : Int) (s : State) : State :=
  (s.writeOperand (.indexed x d) (s.reg8 .a)).retire 3 s.cfg.cycStIdxA

/-- The body of `SUB (IX+d)` and `SUB (IY+d)` (R130, R131). -/
def subIndexed (x : IndexReg) (d : Int) (s : State) : State :=
  (s.setAF (sub8 (s.reg8 .a) (s.readOperand (.indexed x d)))).retire 3 s.cfg.cycSubIdx

/-- `LD IX,nn` (R126). -/
def execLdIxNn (nn : Word) (s : State) : Result := .next (loadIndex .ix nn s)

/-- `LD (IX+d),A` (R128). -/
def execLdIndIxA (d : Int) (s : State) : Result := .next (storeIndexed .ix d s)

/-- `SUB (IX+d)` (R130). -/
def execSubIndIx (d : Int) (s : State) : Result := .next (subIndexed .ix d s)

/-- `BIT 0,(IX+d)` (R132). -/
def execBit0IndIx (d : Int) (s : State) : Result := .next (testMem 0 (.indexed .ix d) 4 20 s)

/-- `BIT 1,(IX+d)` (R132). -/
def execBit1IndIx (d : Int) (s : State) : Result := .next (testMem 1 (.indexed .ix d) 4 20 s)

/-- `BIT 2,(IX+d)` (R132). -/
def execBit2IndIx (d : Int) (s : State) : Result := .next (testMem 2 (.indexed .ix d) 4 20 s)

/-- `BIT 3,(IX+d)` (R132). -/
def execBit3IndIx (d : Int) (s : State) : Result := .next (testMem 3 (.indexed .ix d) 4 20 s)

/-- `BIT 4,(IX+d)` (R132). -/
def execBit4IndIx (d : Int) (s : State) : Result := .next (testMem 4 (.indexed .ix d) 4 20 s)

/-- `BIT 5,(IX+d)` (R132). -/
def execBit5IndIx (d : Int) (s : State) : Result := .next (testMem 5 (.indexed .ix d) 4 20 s)

/-- `BIT 6,(IX+d)` (R132). -/
def execBit6IndIx (d : Int) (s : State) : Result := .next (testMem 6 (.indexed .ix d) 4 20 s)

/-- `BIT 7,(IX+d)` (R132). -/
def execBit7IndIx (d : Int) (s : State) : Result := .next (testMem 7 (.indexed .ix d) 4 20 s)

/-- `LD IY,nn` (R127). -/
def execLdIyNn (nn : Word) (s : State) : Result := .next (loadIndex .iy nn s)

/-- `LD (IY+d),A` (R129). -/
def execLdIndIyA (d : Int) (s : State) : Result := .next (storeIndexed .iy d s)

/-- `SUB (IY+d)` (R131). -/
def execSubIndIy (d : Int) (s : State) : Result := .next (subIndexed .iy d s)

/-- `BIT 0,(IY+d)` (R133). -/
def execBit0IndIy (d : Int) (s : State) : Result := .next (testMem 0 (.indexed .iy d) 4 20 s)

/-- `BIT 1,(IY+d)` (R133). -/
def execBit1IndIy (d : Int) (s : State) : Result := .next (testMem 1 (.indexed .iy d) 4 20 s)

/-- `BIT 2,(IY+d)` (R133). -/
def execBit2IndIy (d : Int) (s : State) : Result := .next (testMem 2 (.indexed .iy d) 4 20 s)

/-- `BIT 3,(IY+d)` (R133). -/
def execBit3IndIy (d : Int) (s : State) : Result := .next (testMem 3 (.indexed .iy d) 4 20 s)

/-- `BIT 4,(IY+d)` (R133). -/
def execBit4IndIy (d : Int) (s : State) : Result := .next (testMem 4 (.indexed .iy d) 4 20 s)

/-- `BIT 5,(IY+d)` (R133). -/
def execBit5IndIy (d : Int) (s : State) : Result := .next (testMem 5 (.indexed .iy d) 4 20 s)

/-- `BIT 6,(IY+d)` (R133). -/
def execBit6IndIy (d : Int) (s : State) : Result := .next (testMem 6 (.indexed .iy d) 4 20 s)

/-- `BIT 7,(IY+d)` (R133). -/
def execBit7IndIy (d : Int) (s : State) : Result := .next (testMem 7 (.indexed .iy d) 4 20 s)

end Sys2Proof.Machine
end

