-- ==== Sys2Proof/Machine/Load.lean ====
section
/-! DEFINITION. Load and store instructions (40 R65 to R71). None touches a flag (R65). -/

namespace Sys2Proof.Machine

/-- The body of `LD r,n` (R66). -/
def loadReg (r : Reg8) (n : Byte) (s : State) : State := (s.setReg8 r n).retire 2 7

/-- The body of `LD rr,nn` (R67). -/
def loadPair (p : Reg16) (nn : Word) (s : State) : State := (s.setReg16 p nn).retire 3 10

/-- The body of the register-indirect stores (R68, R69, R70). -/
def storeVia (o : MemOperand) (r : Reg8) (s : State) : State := (s.writeOperand o (s.reg8 r)).retire 1 7

/-- `LD BC,nn` (R67). -/
def execLdBcNn (nn : Word) (s : State) : Result := .next (loadPair .bc nn s)

/-- `LD DE,nn` (R67). -/
def execLdDeNn (nn : Word) (s : State) : Result := .next (loadPair .de nn s)

/-- `LD HL,nn` (R67). -/
def execLdHlNn (nn : Word) (s : State) : Result := .next (loadPair .hl nn s)

/-- `LD SP,nn` (R67). -/
def execLdSpNn (nn : Word) (s : State) : Result := .next (loadPair .sp nn s)

/-- `LD (BC),A` (R68). -/
def execLdIndBcA (s : State) : Result := .next (storeVia .bc .a s)

/-- `LD (DE),A` (R69). -/
def execLdIndDeA (s : State) : Result := .next (storeVia .de .a s)

/-- `LD B,n` (R66). -/
def execLdBN (n : Byte) (s : State) : Result := .next (loadReg .b n s)

/-- `LD C,n` (R66). -/
def execLdCN (n : Byte) (s : State) : Result := .next (loadReg .c n s)

/-- `LD D,n` (R66). -/
def execLdDN (n : Byte) (s : State) : Result := .next (loadReg .d n s)

/-- `LD E,n` (R66). -/
def execLdEN (n : Byte) (s : State) : Result := .next (loadReg .e n s)

/-- `LD H,n` (R66). -/
def execLdHN (n : Byte) (s : State) : Result := .next (loadReg .h n s)

/-- `LD L,n` (R66). -/
def execLdLN (n : Byte) (s : State) : Result := .next (loadReg .l n s)

/-- `LD A,n` (R66). -/
def execLdAN (n : Byte) (s : State) : Result := .next (loadReg .a n s)

/-- `LD (HL),B` (R70). -/
def execLdIndHlB (s : State) : Result := .next (storeVia .hl .b s)

/-- `LD (HL),C` (R70). -/
def execLdIndHlC (s : State) : Result := .next (storeVia .hl .c s)

/-- `LD (HL),D` (R70). -/
def execLdIndHlD (s : State) : Result := .next (storeVia .hl .d s)

/-- `LD (HL),E` (R70). -/
def execLdIndHlE (s : State) : Result := .next (storeVia .hl .e s)

/-- `LD (HL),H` (R70). -/
def execLdIndHlH (s : State) : Result := .next (storeVia .hl .h s)

/-- `LD (HL),L` (R70). -/
def execLdIndHlL (s : State) : Result := .next (storeVia .hl .l s)

/-- `LD (HL),A` (R70). -/
def execLdIndHlA (s : State) : Result := .next (storeVia .hl .a s)

end Sys2Proof.Machine
end

