-- ==== Sys2Proof/Machine/Misc.lean ====
section
/-! DEFINITION. `HALT`, `SCF` and `NOP` (46 R115 to R118). The unknown opcode of R121 is `raiseUnknownOpcode`. -/

namespace Sys2Proof.Machine


/-- `NOP` (R118). -/
def execNop (s : State) : Result := .next (s.retire 1 4)

/-- `SCF` (R117). -/
def execScf (s : State) : Result := .next ((s.setF (scfFlags s.regs.f)).retire 1 4)

/-- `HALT` (R116). -/
def execHalt (s : State) : Result := .next ((s.retire 1 4).endRun .halt)

end Sys2Proof.Machine
end

