-- ==== Sys2Proof/Machine/Rotate.lean ====
section
/-! DEFINITION. Rotates and shift (43 R86 to R97). -/

namespace Sys2Proof.Machine

/-- The flags after an operation on `v` (R86). -/
def State.rotatedFlags (s : State) (op : RotOp) (v : Byte) : Byte :=
  rotFlags s.cfg.rotCarryUntouched op (rotate op v s.carry).1 (rotate op v s.carry).2 s.carry

/-- The register form of R86. -/
def rotateReg (op : RotOp) (r : Reg8) (s : State) : State :=
  let v := s.reg8 r
  ((s.setReg8 r (rotate op v s.carry).1).setF (s.rotatedFlags op v)).retire 2 8

/-- The `(HL)` form of R86: one read, then one write of the same cell. -/
def rotateHl (op : RotOp) (s : State) : State :=
  let v := s.readOperand .hl
  ((s.writeOperand .hl (rotate op v s.carry).1).setF (s.rotatedFlags op v)).retire 2 12

/-- `RLC B` (R87). -/
def execRlcB (s : State) : Result := .next (rotateReg .rlc .b s)

/-- `RLC C` (R87). -/
def execRlcC (s : State) : Result := .next (rotateReg .rlc .c s)

/-- `RLC D` (R87). -/
def execRlcD (s : State) : Result := .next (rotateReg .rlc .d s)

/-- `RLC E` (R87). -/
def execRlcE (s : State) : Result := .next (rotateReg .rlc .e s)

/-- `RLC H` (R87). -/
def execRlcH (s : State) : Result := .next (rotateReg .rlc .h s)

/-- `RLC L` (R87). -/
def execRlcL (s : State) : Result := .next (rotateReg .rlc .l s)

/-- `RLC (HL)` (R88). -/
def execRlcIndHl (s : State) : Result := .next (rotateHl .rlc s)

/-- `RLC A` (R87). -/
def execRlcA (s : State) : Result := .next (rotateReg .rlc .a s)

/-- `RRC B` (R89). -/
def execRrcB (s : State) : Result := .next (rotateReg .rrc .b s)

/-- `RRC C` (R89). -/
def execRrcC (s : State) : Result := .next (rotateReg .rrc .c s)

/-- `RRC D` (R89). -/
def execRrcD (s : State) : Result := .next (rotateReg .rrc .d s)

/-- `RRC E` (R89). -/
def execRrcE (s : State) : Result := .next (rotateReg .rrc .e s)

/-- `RRC H` (R89). -/
def execRrcH (s : State) : Result := .next (rotateReg .rrc .h s)

/-- `RRC L` (R89). -/
def execRrcL (s : State) : Result := .next (rotateReg .rrc .l s)

/-- `RRC (HL)` (R90). -/
def execRrcIndHl (s : State) : Result := .next (rotateHl .rrc s)

/-- `RRC A` (R89). -/
def execRrcA (s : State) : Result := .next (rotateReg .rrc .a s)

/-- `RL B` (R91). -/
def execRlB (s : State) : Result := .next (rotateReg .rl .b s)

/-- `RL C` (R91). -/
def execRlC (s : State) : Result := .next (rotateReg .rl .c s)

/-- `RL D` (R91). -/
def execRlD (s : State) : Result := .next (rotateReg .rl .d s)

/-- `RL E` (R91). -/
def execRlE (s : State) : Result := .next (rotateReg .rl .e s)

/-- `RL H` (R91). -/
def execRlH (s : State) : Result := .next (rotateReg .rl .h s)

/-- `RL L` (R91). -/
def execRlL (s : State) : Result := .next (rotateReg .rl .l s)

/-- `RL (HL)` (R92). -/
def execRlIndHl (s : State) : Result := .next (rotateHl .rl s)

/-- `RL A` (R91). -/
def execRlA (s : State) : Result := .next (rotateReg .rl .a s)

/-- `RR B` (R93). -/
def execRrB (s : State) : Result := .next (rotateReg .rr .b s)

/-- `RR C` (R93). -/
def execRrC (s : State) : Result := .next (rotateReg .rr .c s)

/-- `RR D` (R93). -/
def execRrD (s : State) : Result := .next (rotateReg .rr .d s)

/-- `RR E` (R93). -/
def execRrE (s : State) : Result := .next (rotateReg .rr .e s)

/-- `RR H` (R93). -/
def execRrH (s : State) : Result := .next (rotateReg .rr .h s)

/-- `RR L` (R93). -/
def execRrL (s : State) : Result := .next (rotateReg .rr .l s)

/-- `RR (HL)` (R94). -/
def execRrIndHl (s : State) : Result := .next (rotateHl .rr s)

/-- `RR A` (R93). -/
def execRrA (s : State) : Result := .next (rotateReg .rr .a s)

/-- `SRA B` (R95). -/
def execSraB (s : State) : Result := .next (rotateReg .sra .b s)

/-- `SRA C` (R95). -/
def execSraC (s : State) : Result := .next (rotateReg .sra .c s)

/-- `SRA D` (R95). -/
def execSraD (s : State) : Result := .next (rotateReg .sra .d s)

/-- `SRA E` (R95). -/
def execSraE (s : State) : Result := .next (rotateReg .sra .e s)

/-- `SRA H` (R95). -/
def execSraH (s : State) : Result := .next (rotateReg .sra .h s)

/-- `SRA L` (R95). -/
def execSraL (s : State) : Result := .next (rotateReg .sra .l s)

/-- `SRA (HL)` (R96). -/
def execSraIndHl (s : State) : Result := .next (rotateHl .sra s)

/-- `SRA A` (R95). -/
def execSraA (s : State) : Result := .next (rotateReg .sra .a s)

end Sys2Proof.Machine
end

