-- ==== Sys2Proof/WellFormed.lean ====
section
/-! DEFINITION. Which terms of the syntax are instructions of the machine: a displacement is one signed byte (30 R55:
"in the range -128 to +127"). Every other operand is as wide as its field by its type. -/

namespace Sys2Proof

/-- A displacement that one signed byte can hold (30 R55). -/
def fitsDisplacement (x : Int) : Bool := decide (-128 ≤ x) && decide (x ≤ 127)

/-- The check: every displacement fits its byte. -/
def wellFormed (i : Instr) : Bool :=
  match i with
  | .jrE e => fitsDisplacement e
  | .ldIndIxA d => fitsDisplacement d
  | .subIndIx d => fitsDisplacement d
  | .bit0IndIx d => fitsDisplacement d
  | .bit1IndIx d => fitsDisplacement d
  | .bit2IndIx d => fitsDisplacement d
  | .bit3IndIx d => fitsDisplacement d
  | .bit4IndIx d => fitsDisplacement d
  | .bit5IndIx d => fitsDisplacement d
  | .bit6IndIx d => fitsDisplacement d
  | .bit7IndIx d => fitsDisplacement d
  | .ldIndIyA d => fitsDisplacement d
  | .subIndIy d => fitsDisplacement d
  | .bit0IndIy d => fitsDisplacement d
  | .bit1IndIy d => fitsDisplacement d
  | .bit2IndIy d => fitsDisplacement d
  | .bit3IndIy d => fitsDisplacement d
  | .bit4IndIy d => fitsDisplacement d
  | .bit5IndIy d => fitsDisplacement d
  | .bit6IndIy d => fitsDisplacement d
  | .bit7IndIy d => fitsDisplacement d
  | .nop | .ldBcNn _ | .ldDeNn _ | .ldHlNn _ | .ldSpNn _ | .ldIndBcA | .ldIndDeA | .ldBN _ | .ldCN _ | .ldDN _
  | .ldEN _ | .ldHN _ | .ldLN _ | .ldAN _ | .scf | .ldIndHlB | .ldIndHlC | .ldIndHlD | .ldIndHlE | .ldIndHlH
  | .ldIndHlL | .ldIndHlA | .halt | .addAB | .addAC | .addAD | .addAE | .addAH | .addAL | .addAA | .subB
  | .subC | .subD | .subE | .subH | .subL | .subA | .jpNn _ | .ret | .callNn _ | .rlcB | .rlcC | .rlcD | .rlcE
  | .rlcH | .rlcL | .rlcIndHl | .rlcA | .rrcB | .rrcC | .rrcD | .rrcE | .rrcH | .rrcL | .rrcIndHl | .rrcA
  | .rlB | .rlC | .rlD | .rlE | .rlH | .rlL | .rlIndHl | .rlA | .rrB | .rrC | .rrD | .rrE | .rrH | .rrL
  | .rrIndHl | .rrA | .sraB | .sraC | .sraD | .sraE | .sraH | .sraL | .sraIndHl | .sraA | .bit0B | .bit0C
  | .bit0D | .bit0E | .bit0H | .bit0L | .bit0IndHl | .bit0A | .bit1B | .bit1C | .bit1D | .bit1E | .bit1H
  | .bit1L | .bit1IndHl | .bit1A | .bit2B | .bit2C | .bit2D | .bit2E | .bit2H | .bit2L | .bit2IndHl | .bit2A
  | .bit3B | .bit3C | .bit3D | .bit3E | .bit3H | .bit3L | .bit3IndHl | .bit3A | .bit4B | .bit4C | .bit4D
  | .bit4E | .bit4H | .bit4L | .bit4IndHl | .bit4A | .bit5B | .bit5C | .bit5D | .bit5E | .bit5H | .bit5L
  | .bit5IndHl | .bit5A | .bit6B | .bit6C | .bit6D | .bit6E | .bit6H | .bit6L | .bit6IndHl | .bit6A | .bit7B
  | .bit7C | .bit7D | .bit7E | .bit7H | .bit7L | .bit7IndHl | .bit7A | .sbcHlBc | .sbcHlDe | .sbcHlHl
  | .sbcHlSp | .adcHlBc | .adcHlDe | .adcHlHl | .adcHlSp | .ldIxNn _ | .ldIyNn _ => true

end Sys2Proof
end

