-- ==== Sys2Proof/Decode.lean ====
section
/-! DEFINITION. The decoder, as the dispatch tree of 30 R49 over the fields of 30 R48, total on any bytes: what has no
handler is named as an unknown opcode of its level (30 R61). After it the encoder, written byte by byte from the tables of
30 R56 to R60. -/

namespace Sys2Proof
open Machine

/-- The verdict of the dispatch tree: an instruction, or an unknown opcode met at a level (30 R49, R61). -/
inductive Decoded where
  | instr (i : Instr)
  | unknown (lv : Level)
deriving DecidableEq, Repr

/-- The register an operand code names, none for 110 (30 R50). -/
def reg8OfCode (code : BitVec 3) : Option Reg8 :=
  if code = 0b000#3 then some .b
  else if code = 0b001#3 then some .c
  else if code = 0b010#3 then some .d
  else if code = 0b011#3 then some .e
  else if code = 0b100#3 then some .h
  else if code = 0b101#3 then some .l
  else if code = 0b111#3 then some .a
  else none

/-- The pair a code names (30 R51). -/
def reg16OfCode (code : BitVec 2) : Reg16 :=
  if code = 0b00#2 then .bc
  else if code = 0b01#2 then .de
  else if code = 0b10#2 then .hl
  else .sp

/-- The operation `kkk` of a rotate or shift, none where there is no handler (43 R86). -/
def rotOpOfCode (code : BitVec 3) : Option RotOp :=
  if code = 0b000#3 then some .rlc
  else if code = 0b001#3 then some .rrc
  else if code = 0b010#3 then some .rl
  else if code = 0b011#3 then some .rr
  else if code = 0b101#3 then some .sra
  else none

/-! ### The constructor of an operation and its operands -/

/-- `LD r,n` (30 R56). -/
def Instr.ldReg (r : Reg8) (n : Byte) : Instr :=
  match r with
  | .b => .ldBN n
  | .c => .ldCN n
  | .d => .ldDN n
  | .e => .ldEN n
  | .h => .ldHN n
  | .l => .ldLN n
  | .a => .ldAN n

/-- `LD rr,nn` (30 R56). -/
def Instr.ldPair (p : Reg16) (nn : Word) : Instr :=
  match p with
  | .bc => .ldBcNn nn
  | .de => .ldDeNn nn
  | .hl => .ldHlNn nn
  | .sp => .ldSpNn nn

/-- `LD (HL),r` (30 R56). -/
def Instr.stHl (r : Reg8) : Instr :=
  match r with
  | .b => .ldIndHlB
  | .c => .ldIndHlC
  | .d => .ldIndHlD
  | .e => .ldIndHlE
  | .h => .ldIndHlH
  | .l => .ldIndHlL
  | .a => .ldIndHlA

/-- `ADD A,r` (30 R56). -/
def Instr.add (r : Reg8) : Instr :=
  match r with
  | .b => .addAB
  | .c => .addAC
  | .d => .addAD
  | .e => .addAE
  | .h => .addAH
  | .l => .addAL
  | .a => .addAA

/-- `SUB r` (30 R56). -/
def Instr.sub (r : Reg8) : Instr :=
  match r with
  | .b => .subB
  | .c => .subC
  | .d => .subD
  | .e => .subE
  | .h => .subH
  | .l => .subL
  | .a => .subA

/-- A rotate or shift of a register (30 R57). -/
def Instr.rotReg (op : RotOp) (r : Reg8) : Instr :=
  match op, r with
  | .rlc, .b => .rlcB | .rlc, .c => .rlcC | .rlc, .d => .rlcD | .rlc, .e => .rlcE
  | .rlc, .h => .rlcH | .rlc, .l => .rlcL | .rlc, .a => .rlcA
  | .rrc, .b => .rrcB | .rrc, .c => .rrcC | .rrc, .d => .rrcD | .rrc, .e => .rrcE
  | .rrc, .h => .rrcH | .rrc, .l => .rrcL | .rrc, .a => .rrcA
  | .rl, .b => .rlB | .rl, .c => .rlC | .rl, .d => .rlD | .rl, .e => .rlE
  | .rl, .h => .rlH | .rl, .l => .rlL | .rl, .a => .rlA
  | .rr, .b => .rrB | .rr, .c => .rrC | .rr, .d => .rrD | .rr, .e => .rrE
  | .rr, .h => .rrH | .rr, .l => .rrL | .rr, .a => .rrA
  | .sra, .b => .sraB | .sra, .c => .sraC | .sra, .d => .sraD | .sra, .e => .sraE
  | .sra, .h => .sraH | .sra, .l => .sraL | .sra, .a => .sraA

/-- A rotate or shift of the cell at `HL` (30 R57). -/
def Instr.rotHl (op : RotOp) : Instr :=
  match op with
  | .rlc => .rlcIndHl
  | .rrc => .rrcIndHl
  | .rl => .rlIndHl
  | .rr => .rrIndHl
  | .sra => .sraIndHl

/-- The one of eight instructions whose bit index is `b` (30 R52). -/
def Instr.ofBit (b : Fin 8) (i0 i1 i2 i3 i4 i5 i6 i7 : Instr) : Instr :=
  match b with
  | 0 => i0 | 1 => i1 | 2 => i2 | 3 => i3 | 4 => i4 | 5 => i5 | 6 => i6 | 7 => i7

/-- `BIT b,r` (30 R57). -/
def Instr.bitReg (b : Fin 8) (r : Reg8) : Instr :=
  match r with
  | .b => .ofBit b .bit0B .bit1B .bit2B .bit3B .bit4B .bit5B .bit6B .bit7B
  | .c => .ofBit b .bit0C .bit1C .bit2C .bit3C .bit4C .bit5C .bit6C .bit7C
  | .d => .ofBit b .bit0D .bit1D .bit2D .bit3D .bit4D .bit5D .bit6D .bit7D
  | .e => .ofBit b .bit0E .bit1E .bit2E .bit3E .bit4E .bit5E .bit6E .bit7E
  | .h => .ofBit b .bit0H .bit1H .bit2H .bit3H .bit4H .bit5H .bit6H .bit7H
  | .l => .ofBit b .bit0L .bit1L .bit2L .bit3L .bit4L .bit5L .bit6L .bit7L
  | .a => .ofBit b .bit0A .bit1A .bit2A .bit3A .bit4A .bit5A .bit6A .bit7A

/-- `BIT b,(HL)` (30 R57). -/
def Instr.bitHl (b : Fin 8) : Instr :=
  .ofBit b .bit0IndHl .bit1IndHl .bit2IndHl .bit3IndHl .bit4IndHl .bit5IndHl .bit6IndHl .bit7IndHl

/-- `SBC HL,rr` (30 R58). -/
def Instr.sbc (p : Reg16) : Instr :=
  match p with
  | .bc => .sbcHlBc
  | .de => .sbcHlDe
  | .hl => .sbcHlHl
  | .sp => .sbcHlSp

/-- `ADC HL,rr` (30 R58). -/
def Instr.adc (p : Reg16) : Instr :=
  match p with
  | .bc => .adcHlBc
  | .de => .adcHlDe
  | .hl => .adcHlHl
  | .sp => .adcHlSp

/-- `LD IX,nn`, `LD IY,nn` (30 R59). -/
def Instr.ldIndex (x : IndexReg) (nn : Word) : Instr :=
  match x with
  | .ix => .ldIxNn nn
  | .iy => .ldIyNn nn

/-- `LD (IX+d),A`, `LD (IY+d),A` (30 R59). -/
def Instr.stIndex (x : IndexReg) (d : Int) : Instr :=
  match x with
  | .ix => .ldIndIxA d
  | .iy => .ldIndIyA d

/-- `SUB (IX+d)`, `SUB (IY+d)` (30 R59). -/
def Instr.subIndex (x : IndexReg) (d : Int) : Instr :=
  match x with
  | .ix => .subIndIx d
  | .iy => .subIndIy d

/-- `BIT b,(IX+d)`, `BIT b,(IY+d)` (30 R60). -/
def Instr.bitIndex (x : IndexReg) (b : Fin 8) (d : Int) : Instr :=
  match x with
  | .ix => .ofBit b (.bit0IndIx d) (.bit1IndIx d) (.bit2IndIx d) (.bit3IndIx d) (.bit4IndIx d) (.bit5IndIx d) (.bit6IndIx d) (.bit7IndIx d)
  | .iy => .ofBit b (.bit0IndIy d) (.bit1IndIy d) (.bit2IndIy d) (.bit3IndIy d) (.bit4IndIy d) (.bit5IndIy d) (.bit6IndIy d) (.bit7IndIy d)

/-! ### The dispatch tree -/

/-- Level U, keyed on byte 0; `b1` and `b2` are the bytes an operand may stand in (30 R56). -/
def decodeU (b0 b1 b2 : Byte) : Option Instr :=
  let x := opX b0
  let y := opY b0
  let z := opZ b0
  if x = 0b00#2 then
    if z = 0b000#3 then
      if y = 0b000#3 then some .nop
      else if y = 0b011#3 then some (.jrE (sext8 b1))
      else none
    else if z = 0b001#3 then
      if opQ b0 = 0b0#1 then some (.ldPair (reg16OfCode (opP b0)) (wordOf b2 b1)) else none
    else if z = 0b010#3 then
      if y = 0b000#3 then some .ldIndBcA
      else if y = 0b010#3 then some .ldIndDeA
      else none
    else if z = 0b110#3 then (reg8OfCode y).map (fun r => .ldReg r b1)
    else if z = 0b111#3 then
      if y = 0b110#3 then some .scf else none
    else none
  else if x = 0b01#2 then
    if y = 0b110#3 then
      match reg8OfCode z with
      | some r => some (.stHl r)
      | none => some .halt
    else none
  else if x = 0b10#2 then
    if y = 0b000#3 then (reg8OfCode z).map (fun r => .add r)
    else if y = 0b010#3 then (reg8OfCode z).map (fun r => .sub r)
    else none
  else
    if y = 0b000#3 ∧ z = 0b011#3 then some (.jpNn (wordOf b2 b1))
    else if y = 0b001#3 ∧ z = 0b001#3 then some .ret
    else if y = 0b001#3 ∧ z = 0b101#3 then some (.callNn (wordOf b2 b1))
    else none

/-- Level CB, keyed on byte 1 (30 R57). -/
def decodeCB (key : Byte) : Option Instr :=
  if opX key = 0b00#2 then
    (rotOpOfCode (opY key)).map fun op =>
      match reg8OfCode (opZ key) with
      | some r => .rotReg op r
      | none => .rotHl op
  else if opX key = 0b01#2 then
    match reg8OfCode (opZ key) with
    | some r => some (.bitReg (opY key).toFin r)
    | none => some (.bitHl (opY key).toFin)
  else none

/-- Level ED, keyed on byte 1 (30 R58). -/
def decodeED (key : Byte) : Option Instr :=
  if opX key = 0b01#2 ∧ opZ key = 0b010#3 then
    if opQ key = 0b0#1 then some (.sbc (reg16OfCode (opP key))) else some (.adc (reg16OfCode (opP key)))
  else none

/-- Level XY, keyed on byte 1, but for the sub-prefix 0xCB (30 R59). -/
def decodeXY (x : IndexReg) (key b2 b3 : Byte) : Option Instr :=
  if key = 0x21#8 then some (.ldIndex x (wordOf b3 b2))
  else if key = 0x77#8 then some (.stIndex x (sext8 b2))
  else if key = 0x96#8 then some (.subIndex x (sext8 b2))
  else none

/-- Level XYCB, keyed on byte 3, the displacement before it (30 R60). -/
def decodeXYCB (x : IndexReg) (d key : Byte) : Option Instr :=
  if opX key = 0b01#2 ∧ opZ key = 0b110#3 then some (.bitIndex x (opY key).toFin (sext8 d)) else none

/-- A handler found, or an unknown opcode of that level (30 R61). -/
def Decoded.ofHandler (lv : Level) (h : Option Instr) : Decoded :=
  match h with
  | some i => .instr i
  | none => .unknown lv

/-- What an index prefix leads to (30 R49). -/
def decodeIndexed (x : IndexReg) (b1 b2 b3 : Byte) : Decoded :=
  if b1 = 0xCB#8 then .ofHandler .xycb (decodeXYCB x b2 b3) else .ofHandler .xy (decodeXY x b1 b2 b3)

/-- The decoder: the four bytes from `pc0` on, of which an instruction uses one to four (30 R45, R49). -/
def decode (b0 b1 b2 b3 : Byte) : Decoded :=
  if b0 = 0xCB#8 then .ofHandler .cb (decodeCB b1)
  else if b0 = 0xED#8 then .ofHandler .ed (decodeED b1)
  else if b0 = 0xDD#8 then decodeIndexed .ix b1 b2 b3
  else if b0 = 0xFD#8 then decodeIndexed .iy b1 b2 b3
  else .ofHandler .u (decodeU b0 b1 b2)

/-- The decoder on a byte sequence; bytes past its end read as 0. -/
def decodeBytes (bs : List Byte) : Decoded :=
  decode (bs.getD 0 0) (bs.getD 1 0) (bs.getD 2 0) (bs.getD 3 0)

/-- The four bytes of a table word: the table numbers an instruction as one number whose most significant byte is byte 0
(30 R179; log entry 5); the bytes it does not reach are 0. -/
def tableBytes (nbits w : Nat) : List Byte :=
  let len := nbits / 8
  (List.range 4).map fun k => if k < len then BitVec.ofNat 8 (w / 256 ^ (len - 1 - k)) else 0

/-- The instruction a table word stands for. -/
def decodeTableWord (nbits w : Nat) : Option Instr :=
  match decodeBytes (tableBytes nbits w) with
  | .instr i => some i
  | .unknown _ => none

/-! ### The encoder -/

/-- The bytes of an instruction, first byte first (30 R46, R56 to R60). -/
def encode (i : Instr) : List Byte :=
  match i with
  -- Unprefixed instructions (30 R56).
  | .nop => [0x00]
  | .ldBcNn nn => [0x01, loByte nn, hiByte nn]
  | .ldDeNn nn => [0x11, loByte nn, hiByte nn]
  | .ldHlNn nn => [0x21, loByte nn, hiByte nn]
  | .ldSpNn nn => [0x31, loByte nn, hiByte nn]
  | .ldIndBcA => [0x02]
  | .ldIndDeA => [0x12]
  | .ldBN n => [0x06, n]
  | .ldCN n => [0x0E, n]
  | .ldDN n => [0x16, n]
  | .ldEN n => [0x1E, n]
  | .ldHN n => [0x26, n]
  | .ldLN n => [0x2E, n]
  | .ldAN n => [0x3E, n]
  | .jrE e => [0x18, displacementByte e]
  | .scf => [0x37]
  | .ldIndHlB => [0x70]
  | .ldIndHlC => [0x71]
  | .ldIndHlD => [0x72]
  | .ldIndHlE => [0x73]
  | .ldIndHlH => [0x74]
  | .ldIndHlL => [0x75]
  | .ldIndHlA => [0x77]
  | .halt => [0x76]
  | .addAB => [0x80]
  | .addAC => [0x81]
  | .addAD => [0x82]
  | .addAE => [0x83]
  | .addAH => [0x84]
  | .addAL => [0x85]
  | .addAA => [0x87]
  | .subB => [0x90]
  | .subC => [0x91]
  | .subD => [0x92]
  | .subE => [0x93]
  | .subH => [0x94]
  | .subL => [0x95]
  | .subA => [0x97]
  | .jpNn nn => [0xC3, loByte nn, hiByte nn]
  | .ret => [0xC9]
  | .callNn nn => [0xCD, loByte nn, hiByte nn]
  -- Prefix 0xCB: rotates, shift and bit tests (30 R57).
  | .rlcB => [0xCB, 0x00]
  | .rlcC => [0xCB, 0x01]
  | .rlcD => [0xCB, 0x02]
  | .rlcE => [0xCB, 0x03]
  | .rlcH => [0xCB, 0x04]
  | .rlcL => [0xCB, 0x05]
  | .rlcIndHl => [0xCB, 0x06]
  | .rlcA => [0xCB, 0x07]
  | .rrcB => [0xCB, 0x08]
  | .rrcC => [0xCB, 0x09]
  | .rrcD => [0xCB, 0x0A]
  | .rrcE => [0xCB, 0x0B]
  | .rrcH => [0xCB, 0x0C]
  | .rrcL => [0xCB, 0x0D]
  | .rrcIndHl => [0xCB, 0x0E]
  | .rrcA => [0xCB, 0x0F]
  | .rlB => [0xCB, 0x10]
  | .rlC => [0xCB, 0x11]
  | .rlD => [0xCB, 0x12]
  | .rlE => [0xCB, 0x13]
  | .rlH => [0xCB, 0x14]
  | .rlL => [0xCB, 0x15]
  | .rlIndHl => [0xCB, 0x16]
  | .rlA => [0xCB, 0x17]
  | .rrB => [0xCB, 0x18]
  | .rrC => [0xCB, 0x19]
  | .rrD => [0xCB, 0x1A]
  | .rrE => [0xCB, 0x1B]
  | .rrH => [0xCB, 0x1C]
  | .rrL => [0xCB, 0x1D]
  | .rrIndHl => [0xCB, 0x1E]
  | .rrA => [0xCB, 0x1F]
  | .sraB => [0xCB, 0x28]
  | .sraC => [0xCB, 0x29]
  | .sraD => [0xCB, 0x2A]
  | .sraE => [0xCB, 0x2B]
  | .sraH => [0xCB, 0x2C]
  | .sraL => [0xCB, 0x2D]
  | .sraIndHl => [0xCB, 0x2E]
  | .sraA => [0xCB, 0x2F]
  | .bit0B => [0xCB, 0x40]
  | .bit0C => [0xCB, 0x41]
  | .bit0D => [0xCB, 0x42]
  | .bit0E => [0xCB, 0x43]
  | .bit0H => [0xCB, 0x44]
  | .bit0L => [0xCB, 0x45]
  | .bit0IndHl => [0xCB, 0x46]
  | .bit0A => [0xCB, 0x47]
  | .bit1B => [0xCB, 0x48]
  | .bit1C => [0xCB, 0x49]
  | .bit1D => [0xCB, 0x4A]
  | .bit1E => [0xCB, 0x4B]
  | .bit1H => [0xCB, 0x4C]
  | .bit1L => [0xCB, 0x4D]
  | .bit1IndHl => [0xCB, 0x4E]
  | .bit1A => [0xCB, 0x4F]
  | .bit2B => [0xCB, 0x50]
  | .bit2C => [0xCB, 0x51]
  | .bit2D => [0xCB, 0x52]
  | .bit2E => [0xCB, 0x53]
  | .bit2H => [0xCB, 0x54]
  | .bit2L => [0xCB, 0x55]
  | .bit2IndHl => [0xCB, 0x56]
  | .bit2A => [0xCB, 0x57]
  | .bit3B => [0xCB, 0x58]
  | .bit3C => [0xCB, 0x59]
  | .bit3D => [0xCB, 0x5A]
  | .bit3E => [0xCB, 0x5B]
  | .bit3H => [0xCB, 0x5C]
  | .bit3L => [0xCB, 0x5D]
  | .bit3IndHl => [0xCB, 0x5E]
  | .bit3A => [0xCB, 0x5F]
  | .bit4B => [0xCB, 0x60]
  | .bit4C => [0xCB, 0x61]
  | .bit4D => [0xCB, 0x62]
  | .bit4E => [0xCB, 0x63]
  | .bit4H => [0xCB, 0x64]
  | .bit4L => [0xCB, 0x65]
  | .bit4IndHl => [0xCB, 0x66]
  | .bit4A => [0xCB, 0x67]
  | .bit5B => [0xCB, 0x68]
  | .bit5C => [0xCB, 0x69]
  | .bit5D => [0xCB, 0x6A]
  | .bit5E => [0xCB, 0x6B]
  | .bit5H => [0xCB, 0x6C]
  | .bit5L => [0xCB, 0x6D]
  | .bit5IndHl => [0xCB, 0x6E]
  | .bit5A => [0xCB, 0x6F]
  | .bit6B => [0xCB, 0x70]
  | .bit6C => [0xCB, 0x71]
  | .bit6D => [0xCB, 0x72]
  | .bit6E => [0xCB, 0x73]
  | .bit6H => [0xCB, 0x74]
  | .bit6L => [0xCB, 0x75]
  | .bit6IndHl => [0xCB, 0x76]
  | .bit6A => [0xCB, 0x77]
  | .bit7B => [0xCB, 0x78]
  | .bit7C => [0xCB, 0x79]
  | .bit7D => [0xCB, 0x7A]
  | .bit7E => [0xCB, 0x7B]
  | .bit7H => [0xCB, 0x7C]
  | .bit7L => [0xCB, 0x7D]
  | .bit7IndHl => [0xCB, 0x7E]
  | .bit7A => [0xCB, 0x7F]
  -- Prefix 0xED: 16-bit arithmetic with carry (30 R58).
  | .sbcHlBc => [0xED, 0x42]
  | .sbcHlDe => [0xED, 0x52]
  | .sbcHlHl => [0xED, 0x62]
  | .sbcHlSp => [0xED, 0x72]
  | .adcHlBc => [0xED, 0x4A]
  | .adcHlDe => [0xED, 0x5A]
  | .adcHlHl => [0xED, 0x6A]
  | .adcHlSp => [0xED, 0x7A]
  -- Prefixes 0xDD and 0xFD: index registers (30 R59, R60).
  | .ldIxNn nn => [0xDD, 0x21, loByte nn, hiByte nn]
  | .ldIndIxA d => [0xDD, 0x77, displacementByte d]
  | .subIndIx d => [0xDD, 0x96, displacementByte d]
  | .bit0IndIx d => [0xDD, 0xCB, displacementByte d, 0x46]
  | .bit1IndIx d => [0xDD, 0xCB, displacementByte d, 0x4E]
  | .bit2IndIx d => [0xDD, 0xCB, displacementByte d, 0x56]
  | .bit3IndIx d => [0xDD, 0xCB, displacementByte d, 0x5E]
  | .bit4IndIx d => [0xDD, 0xCB, displacementByte d, 0x66]
  | .bit5IndIx d => [0xDD, 0xCB, displacementByte d, 0x6E]
  | .bit6IndIx d => [0xDD, 0xCB, displacementByte d, 0x76]
  | .bit7IndIx d => [0xDD, 0xCB, displacementByte d, 0x7E]
  | .ldIyNn nn => [0xFD, 0x21, loByte nn, hiByte nn]
  | .ldIndIyA d => [0xFD, 0x77, displacementByte d]
  | .subIndIy d => [0xFD, 0x96, displacementByte d]
  | .bit0IndIy d => [0xFD, 0xCB, displacementByte d, 0x46]
  | .bit1IndIy d => [0xFD, 0xCB, displacementByte d, 0x4E]
  | .bit2IndIy d => [0xFD, 0xCB, displacementByte d, 0x56]
  | .bit3IndIy d => [0xFD, 0xCB, displacementByte d, 0x5E]
  | .bit4IndIy d => [0xFD, 0xCB, displacementByte d, 0x66]
  | .bit5IndIy d => [0xFD, 0xCB, displacementByte d, 0x6E]
  | .bit6IndIy d => [0xFD, 0xCB, displacementByte d, 0x76]
  | .bit7IndIy d => [0xFD, 0xCB, displacementByte d, 0x7E]

end Sys2Proof
end

