-- ==== Sys2Proof/Machine/Fetch.lean ====
section
/-! DEFINITION. The start of an iteration of the run loop: entering a run, the boundary guard, and the fetch step common to
every instruction (50 R136, R138, R140); and the place where the next instruction's bytes stand. -/

namespace Sys2Proof.Machine

/-- The start of a run: `cyc <- RUN_ENTRY_CYCLES`, and the engine holds the memory (50 R138, 20 R44). -/
def State.beginRun (s : State) : State := { s with cyc := s.cfg.runEntryCycles, run := .inProgress }

/-- An iteration belongs to the run in progress; where there is none, the host starts one with it (log entry 2). -/
def State.enter (s : State) : State := if s.run = .inProgress then s else s.beginRun

/-- The boundary guard: constantly false under `PC_OVERFLOW = wrap` (50 R140). -/
def State.guardFires (s : State) : Bool := decide (s.cfg.pcOverflow = .stop) && s.pcLeftRange

/-- `R <- (R + 1) mod 128`, once for an instruction, before dispatch (50 R136, 10 R22). -/
def State.countFetch (s : State) : State := { s with r := BitVec.ofNat 8 ((s.r.toNat + 1) % 128) }

/-- What the bytes at `PC` decode to; operand addresses wrap (50 R136, 20 R37). A read has no side effect, so reading the
bytes past a short instruction shows nothing (20 R35; log entry 8). -/
def State.fetchDecode (s : State) : Decoded :=
  decode (s.memRead s.pc) (s.memRead (s.pc + 1)) (s.memRead (s.pc + 2)) (s.memRead (s.pc + 3))

/-- Bytes stored at consecutive addresses, modulo 65536. -/
def State.storeBytes (s : State) (a : Word) (bs : List Byte) : State :=
  match bs with
  | [] => s
  | v :: rest => (s.memWrite a v).storeBytes (a + 1) rest

/-- The bytes of a table word stored where the next fetch reads, and the boundary guard lifted. -/
def State.placeTableWord (s : State) (nbits w : Nat) : State :=
  { s.storeBytes s.pc (tableBytes nbits w) with pcLeftRange := false }

end Sys2Proof.Machine
end

