-- ==== Sys2Proof/Machine/Iterate.lean ====
section
/-! DEFINITION. One iteration of the run loop, less the budget check, which stands in the loop itself (Machine/Engine.lean):
the boundary guard, the fetch step, and the leaf operation or the unknown-opcode rule (50 R136, R138, 60 R156). -/

namespace Sys2Proof.Machine

/-- Checks (2), (3) and (4) of 60 R156. The guard ends the run and fetches nothing. -/
def iterate (s : State) : Result :=
  if s.guardFires then .next (s.endRun .addressOutOfRange)
  else
    match s.fetchDecode with
    | .instr i => exec i s.countFetch
    | .unknown lv => raiseUnknownOpcode lv s.countFetch

end Sys2Proof.Machine
end

