-- ==== Sys2Proof/Machine/Step.lean ====
section
/-! DEFINITION. The step of the machine, and a state in which the next step runs a given table word. -/

namespace Sys2Proof.Machine

/-- One step: one iteration of the engine's run loop (50 R138), in the run in progress or as the first of a new one
(log entry 2). -/
def step (s : State) : Host.Outcome State Fault Refusal := iterate s.enter

/-- `s` with a table word stored where the next fetch reads (log entry 3). -/
def State.withFetchWord (s : State) (nbits w : Nat) : State := s.placeTableWord nbits w

end Sys2Proof.Machine
end

