-- ==== Sys2Proof/Machine/Engine.lean ====
section
/-! DEFINITION. The run loop with its cycle budget (50 R138, R139, R142) and the optional trace event (60 R162). -/

namespace Sys2Proof.Machine

/-- What an invocation of the engine comes to. -/
inductive RunResult where
  /-- `run` returned `(cycles_executed, reason)`, leaving the machine in this state (50 R139). -/
  | returned (cycles : Nat) (reason : StopReason) (s : State)
  /-- The encoding at `PC` of this state has no meaning, under `UNLISTED_POLICY = refuse` (93 U1). -/
  | refused (reason : Refusal) (s : State)
  /-- The run was followed for as many iterations as asked and had not returned (log entry 13). -/
  | unfinished (s : State)
deriving DecidableEq, Repr

/-- The loop of R138, for at most `fuel` iterations. An iteration compares the budget first, then takes a step, and returns
if the step ended the run: a `HALT` completed or the boundary guard fired. -/
def runLoop (fuel budget : Nat) (s : State) : RunResult :=
  match fuel with
  | 0 => .unfinished s
  | fuel + 1 =>
    if budget ≤ s.cyc then .returned s.cyc .budgetExhausted (s.endRun .budgetExhausted)
    else
      match step s with
      | .next t =>
        match t.run with
        | .returned reason => .returned t.cyc reason t
        | .notStarted => runLoop fuel budget t
        | .inProgress => runLoop fuel budget t
      | .fault r => nomatch r
      | .refused r => .refused r s

/-- `run(machine, budget)`, followed for at most `fuel` iterations. -/
def runWithin (fuel budget : Nat) (s : State) : RunResult := runLoop fuel budget s.beginRun

/-- `run(machine, budget)` (50 R142). Where every instruction costs at least one cycle the budget is spent within `budget`
iterations, so the one after them finds it spent (log entry 13). -/
def run (budget : Nat) (s : State) : RunResult := runWithin (budget + 1) budget s

/-- The optional trace event of an instruction (60 R162): `pc0` and the instruction's bytes. -/
structure TraceEvent where
  pc0 : Word
  bytes : List Byte
deriving DecidableEq, Repr

/-- How many bytes the verdict of the dispatch tree takes (30 R47). -/
def decodedLength (v : Decoded) : Nat :=
  match v with
  | .instr i => (encode i).length
  | .unknown lv => unknownLength lv

/-- The event of the instruction at `PC`; it has no effect on the machine. -/
def State.traceEvent (s : State) : TraceEvent where
  pc0 := s.pc
  bytes := (List.range (decodedLength s.fetchDecode)).map fun k => s.memRead (s.pc + BitVec.ofNat 16 k)

end Sys2Proof.Machine
end

