-- ==== Sys2Proof/Machine/HostPort.lean ====
section
/-! DEFINITION. The host's four transactions (50 R141 to R145) under the phase rule of the arbiter (20 R44). Each is
complete before the next is issued. -/

namespace Sys2Proof.Machine

/-- `init()` (50 R144, 70 R170); the parameters belong to the machine and stay. -/
def State.init (s : State) : State := State.resetWith s.cfg

/-- The loader's replies (50 R141, 60 R153). -/
inductive LoadReply where
  | ok | loadTooLarge | ioFailure
deriving DecidableEq, Repr

/-- `load(bytes)` (50 R141): the source is the bytes read, or none where it cannot be fully read (log entry 12). -/
def State.load (s : State) (source : Option (List Byte)) : LoadReply × State :=
  match source with
  | none => (.ioFailure, s)
  | some bytes =>
    if 65536 < bytes.length then (.loadTooLarge, s) else (.ok, { s with mem := s.mem.writeBytes 0 bytes })

/-- What the inspection port shows (50 R143): the Register File fields and `unk_count`, not memory. -/
structure Inspection where
  regs : RegSet
  shadow : RegSet
  ix : Word
  iy : Word
  sp : Word
  pc : Word
  i : Byte
  r : Byte
  iff : Bool
  unkCount : Nat
deriving DecidableEq, Repr

/-- A read of the inspection port (50 R143). -/
def State.inspect (s : State) : Inspection where
  regs := s.regs
  shadow := s.shadow
  ix := s.ix
  iy := s.iy
  sp := s.sp
  pc := s.pc
  i := s.i
  r := s.r
  iff := s.iff
  unkCount := s.unkCount

/-- What the host sends (50 R145). -/
inductive HostCommand where
  | init
  | load (source : Option (List Byte))
  | run (budget : Nat)
  | inspect
deriving DecidableEq, Repr

/-- What the host gets back (50 R145). -/
inductive HostReply where
  | ready
  | loaded (reply : LoadReply)
  | returned (cycles : Nat) (reason : StopReason)
  /-- The run met an encoding that `UNLISTED_POLICY = refuse` gives no meaning. -/
  | noMeaning (reason : Refusal)
  /-- The run was not followed to its end (log entry 13). -/
  | unfinished
  | fields (view : Inspection)
deriving DecidableEq, Repr

/-- The reply of a run and the machine it leaves. -/
def RunResult.reply (res : RunResult) : HostReply × State :=
  match res with
  | .returned cycles reason t => (.returned cycles reason, t)
  | .refused reason t => (.noMeaning reason, t)
  | .unfinished t => (.unfinished, t)

/-- The host's move (50 R145): none where the interface gives it no move, that is during a run, and for a `load` once a run
has been started (20 R44, 92 D25). -/
def hostMove (s : State) (command : HostCommand) : Option (HostReply × State) :=
  match s.run, command with
  | .inProgress, _ => none
  | .notStarted, .init => some (.ready, s.init)
  | .notStarted, .load source => some (.loaded (s.load source).1, (s.load source).2)
  | .notStarted, .run budget => some (run budget s).reply
  | .notStarted, .inspect => some (.fields s.inspect, s)
  | .returned _, .init => some (.ready, s.init)
  | .returned _, .load _ => none
  | .returned _, .run budget => some (run budget s).reply
  | .returned _, .inspect => some (.fields s.inspect, s)

end Sys2Proof.Machine
end

