-- ==== Sys2Proof/Safety.lean ====
section
/-! DEFINITION. The terms claims are made in: the invariant of the machine, and the small names the statements share. -/

namespace Sys2Proof.Machine

/-- Bits 5, 3 and 2 of a flags byte, which the spec never names, are 0 (10 R17, 92 D4). -/
def unnamedClear (f : Byte) : Bool := !f.getLsbD 5 && !f.getLsbD 3 && !f.getLsbD 2

/-- The invariant of the machine: what holds at reset and is kept by every step. -/
structure State.Inv (s : State) : Prop where
  /-- Memory is in its canonical form. -/
  memory : s.mem.wf = true
  /-- `R` holds 0 to 127 (10 R22). -/
  refresh : s.r.toNat < 128
  /-- The unnamed bits of `F` are 0 at all times (92 D4). -/
  flags : unnamedClear s.regs.f = true
  /-- The shadow set keeps its reset value (10 R12). -/
  shadow : s.shadow = RegSet.zero
  /-- `I` is 0 at all times after reset (10 R21). -/
  vector : s.i = 0
  /-- `IFF` keeps its reset value (10 R23). -/
  latch : s.iff = false
  /-- `pc_left_range` is no state of a machine whose `PC` wraps (50 R140). -/
  range : s.cfg.pcOverflow = .wrap → s.pcLeftRange = false

/-- The flags byte with the five named flags as given and the unnamed bits 0, bit by bit from the table of 10 R17. -/
def flagsByte (fS fZ fH fN fC : Bool) : Byte :=
  (if fS then 0x80 else 0) ||| (if fZ then 0x40 else 0) ||| (if fH then 0x10 else 0) ||| (if fN then 0x02 else 0)
    ||| (if fC then 0x01 else 0)

/-- Bit `k` of the result of a rotate or shift of `v` with old carry `c`, from the operation's name (43 R86). -/
def rotatedBit (op : RotOp) (v : Byte) (c : Bool) (k : Nat) : Bool :=
  match op with
  | .rlc => if k = 0 then v.getLsbD 7 else v.getLsbD (k - 1)
  | .rrc => if k = 7 then v.getLsbD 0 else v.getLsbD (k + 1)
  | .rl => if k = 0 then c else v.getLsbD (k - 1)
  | .rr => if k = 7 then c else v.getLsbD (k + 1)
  | .sra => if k = 7 then v.getLsbD 7 else v.getLsbD (k + 1)

/-- The bit a rotate or shift moves out of `v`: bit 7 to the left, bit 0 to the right (43 R86). -/
def shiftedOut (op : RotOp) (v : Byte) : Bool :=
  match op with
  | .rlc => v.getLsbD 7
  | .rl => v.getLsbD 7
  | .rrc => v.getLsbD 0
  | .rr => v.getLsbD 0
  | .sra => v.getLsbD 0

/-- The instructions that set `PC` to a computed target instead of advancing it (10 R16, 45 R105). -/
def isTransfer (i : Instr) : Prop := (∃ nn, i = .jpNn nn) ∨ (∃ e, i = .jrE e) ∨ (∃ nn, i = .callNn nn) ∨ i = .ret

/-- The instructions that write the flags (10 R18): all but the last row of its table. -/
def writesFlags (i : Instr) : Prop :=
  (∃ q, i = .add q) ∨ (∃ q, i = .sub q) ∨ (∃ x d, i = .subIndex x d) ∨ (∃ p, i = .adc p) ∨ (∃ p, i = .sbc p) ∨
  (∃ op q, i = .rotReg op q) ∨ (∃ op, i = .rotHl op) ∨ (∃ b q, i = .bitReg b q) ∨ (∃ b, i = .bitHl b) ∨
  (∃ x b d, i = .bitIndex x b d) ∨ i = .scf

/-- The instructions that write memory (20 R32). -/
def writesMemory (i : Instr) : Prop :=
  i = .ldIndBcA ∨ i = .ldIndDeA ∨ (∃ q, i = .stHl q) ∨ (∃ x d, i = .stIndex x d) ∨ (∃ nn, i = .callNn nn) ∨
  (∃ op, i = .rotHl op)

/-- Every fetch in this memory, wherever `PC` points, decodes the bytes of `cell`, addresses modulo 65536 (50 R136,
20 R37). -/
def State.fetchesFrom (s : State) (cell : Word → Byte) : Prop :=
  ∀ pc : Word, State.fetchDecode { s with pc := pc } =
    decode (cell pc) (cell (pc + 1)) (cell (pc + 2)) (cell (pc + 3))

/-- The state after an instruction has been fetched in a run, `PC` still at its first byte (50 R136, R138). -/
def State.fetched (s : State) : State := s.enter.countFetch

end Sys2Proof.Machine

namespace Sys2Proof

/-- The operand code of a register, from the table of 30 R50. -/
def r8Code (q : Reg8) : BitVec 3 :=
  match q with
  | .b => 0b000
  | .c => 0b001
  | .d => 0b010
  | .e => 0b011
  | .h => 0b100
  | .l => 0b101
  | .a => 0b111

/-- The operand code of a pair, from the table of 30 R51. -/
def rpCode (p : Reg16) : BitVec 2 :=
  match p with
  | .bc => 0b00
  | .de => 0b01
  | .hl => 0b10
  | .sp => 0b11

/-- The operation code `kkk` of a rotate or shift (43 R86). -/
def rotCode (op : RotOp) : BitVec 3 :=
  match op with
  | .rlc => 0b000
  | .rrc => 0b001
  | .rl => 0b010
  | .rr => 0b011
  | .sra => 0b101

/-- Byte 0 of the instructions of an index register (47 R125). -/
def indexByte (x : IndexReg) : Byte :=
  match x with
  | .ix => 0xDD
  | .iy => 0xFD

/-- The two bytes of an immediate `nn`, low byte first (30 R54). -/
def immediate (nn : Word) : List Byte := [BitVec.ofNat 8 nn.toNat, BitVec.ofNat 8 (nn.toNat / 256)]

/-- Every cost is at least one cycle: so it is with the defaults of the three open costs (70 R177). -/
def Config.costsPositive (c : Config) : Bool :=
  decide (0 < c.cycLdIdxNn) && decide (0 < c.cycStIdxA) && decide (0 < c.cycSubIdx)

/-- The three open costs lie between 4 and 20, as every other cost does (70 R177). -/
def Config.costsBounded (c : Config) : Bool :=
  decide (4 ≤ c.cycLdIdxNn) && decide (c.cycLdIdxNn ≤ 20) && decide (4 ≤ c.cycStIdxA) && decide (c.cycStIdxA ≤ 20)
    && decide (4 ≤ c.cycSubIdx) && decide (c.cycSubIdx ≤ 20)

end Sys2Proof
end

