-- ==== Sys2Proof/Certificates/Slice0/Obligations.lean ====
section
/-! DEFINITION. The statements for the provers, from the spec's numbered rules. -/

open Sys2Proof Sys2Proof.Machine

/-! ### Reset, and the invariant of the machine -/

/-- The table of 10 R28: every register, counter and cell at its reset value (70 R170). -/
def Obligations.ResetHoldsTheSpecValues : Prop :=
  State.reset.regs = { a := 0, f := 0x40, b := 0, c := 0, d := 0, e := 0, h := 0, l := 0 } ∧
  State.reset.shadow = { a := 0, f := 0, b := 0, c := 0, d := 0, e := 0, h := 0, l := 0 } ∧
  State.reset.ix = 0xFFFF ∧ State.reset.iy = 0xFFFF ∧ State.reset.sp = 0x0000 ∧ State.reset.pc = 0x0000 ∧
  State.reset.i = 0 ∧ State.reset.r = 1 ∧ State.reset.iff = false ∧ State.reset.pcLeftRange = false ∧
  State.reset.cyc = 0 ∧ State.reset.unkCount = 0 ∧ ∀ a : Word, State.reset.memRead a = 0

/-- The invariant holds at reset, whatever the open parameters (00 R7, 10 R28). -/
def Obligations.ResetMeetsTheInvariant : Prop :=
  ∀ c : Config, (State.resetWith c).Inv

/-- Every step keeps the invariant: canonical memory, `R` below 128, the unnamed flag bits, the shadow set, `I` and `IFF` at
their reset values, and no range bit where `PC` wraps (10 R12, R21 to R23, R29, 50 R140). -/
def Obligations.StepKeepsTheInvariant : Prop :=
  ∀ s t : State, s.Inv → step s = .next t → t.Inv

/-- So does every move of the host: `init`, `load`, a whole `run`, `inspect` (50 R145). -/
def Obligations.HostMovesKeepTheInvariant : Prop :=
  ∀ (s t : State) (command : HostCommand) (reply : HostReply),
    s.Inv → hostMove s command = some (reply, t) → t.Inv

/-! ### Encoding -/

/-- No bit of an encoding is dropped: what the encoder writes, the decoder reads back, whatever bytes follow (30 R45 to R60,
for all 175 rows and every operand). -/
def Obligations.DecodeOfEncodeIsTheInstruction : Prop :=
  ∀ (i : Instr) (rest : List Byte), wellFormed i = true → decodeBytes (encode i ++ rest) = .instr i

/-- Each byte sequence has one meaning: what decodes to an instruction begins with that instruction's encoding. -/
def Obligations.DecodedBytesBeginWithTheEncoding : Prop :=
  ∀ (b0 b1 b2 b3 : Byte) (i : Instr), decode b0 b1 b2 b3 = .instr i →
    wellFormed i = true ∧ encode i <+: [b0, b1, b2, b3]

/-- The unknown opcodes are exactly the bytes that begin no encoding, and the decoder is total (30 R61). -/
def Obligations.UnknownExactlyWhereNothingEncodes : Prop :=
  ∀ b0 b1 b2 b3 : Byte,
    (∃ lv, decode b0 b1 b2 b3 = .unknown lv) ↔ ∀ i, wellFormed i = true → ¬ encode i <+: [b0, b1, b2, b3]

/-- Words of each family, written out bit by bit from 30 R56 to R60, and unknown opcodes of each level from 46 R123. -/
def Obligations.WrittenOutWordsDecode : Prop :=
  decode 0b00111110 0x05 0 0 = .instr (.ldAN 0x05) ∧
  decode 0b00100001 0x34 0x12 0 = .instr (.ldHlNn 0x1234) ∧
  decode 0b01110011 0 0 0 = .instr .ldIndHlE ∧
  decode 0b10000101 0 0 0 = .instr .addAL ∧
  decode 0b00011000 0b11111011 0 0 = .instr (.jrE (-5)) ∧
  decode 0b11001011 0b00011001 0 0 = .instr .rrC ∧
  decode 0b11001011 0b01101100 0 0 = .instr .bit5H ∧
  decode 0b11101101 0b01011010 0 0 = .instr .adcHlDe ∧
  decode 0b11111101 0b10010110 0b11111110 0 = .instr (.subIndIy (-2)) ∧
  decode 0b11011101 0b11001011 0x02 0b01011110 = .instr (.bit3IndIx 2) ∧
  decode 0x08 0 0 0 = .unknown .u ∧ decode 0xCB 0x20 0 0 = .unknown .cb ∧ decode 0xED 0x44 0 0 = .unknown .ed ∧
  decode 0xDD 0x3E 0 0 = .unknown .xy ∧ decode 0xDD 0xCB 0x05 0x40 = .unknown .xycb

/-! ### The step -/

/-- A step runs the instruction that the bytes at `PC` decode to, in the run in progress or as the first of a new one, after
`R <- (R + 1) mod 128`, with `PC` still at its first byte (50 R136, R138; that a step starts a run where none is in progress
is the model's choice, log entry 2). -/
def Obligations.StepRunsTheDecodedInstruction : Prop :=
  ∀ (s : State) (i : Instr), s.guardFires = false →
    decode (s.memRead s.pc) (s.memRead (s.pc + 1)) (s.memRead (s.pc + 2)) (s.memRead (s.pc + 3)) = .instr i →
    step s = exec i { s with
      r := BitVec.ofNat 8 ((s.r.toNat + 1) % 128)
      run := .inProgress
      cyc := if s.run = .inProgress then s.cyc else s.cfg.runEntryCycles }

/-- Where the encoding of a well-formed instruction stands at `PC`, a step runs that instruction; operand addresses wrap
(50 R136, 20 R37). -/
def Obligations.StepRunsTheInstructionEncodedAtPc : Prop :=
  ∀ (s : State) (i : Instr), s.guardFires = false → wellFormed i = true →
    (∀ (k : Nat) (h : k < (encode i).length), s.memRead (s.pc + BitVec.ofNat 16 k) = (encode i)[k]) →
    step s = exec i s.fetched

/-- A table word placed by the host runs in the very next step (the model's interface, log entry 3). -/
def Obligations.StepRunsAPlacedTableWord : Prop :=
  ∀ (s : State) (nbits w : Nat) (i : Instr), s.mem.wf = true → decodeTableWord nbits w = some i →
    step (s.withFetchWord nbits w) = exec i (s.withFetchWord nbits w).fetched

/-- An encoding with no handler is counted, skipped by the length of its level and charged 4 cycles; nothing else changes
but what the fetch does (46 R121, R122, 60 R151). -/
def Obligations.UnknownOpcodeIsSkipped : Prop :=
  ∀ (s : State) (lv : Level), s.guardFires = false → s.cfg.unlisted = .unknownNop → s.fetchDecode = .unknown lv →
    step s = .next { s with
      r := BitVec.ofNat 8 ((s.r.toNat + 1) % 128)
      run := .inProgress
      unkCount := s.unkCount + 1
      pc := s.pc + (match lv with | .u => 1 | .cb => 2 | .ed => 2 | .xy => 2 | .xycb => 4)
      pcLeftRange := s.leavesRange (match lv with | .u => 1 | .cb => 2 | .ed => 2 | .xy => 2 | .xycb => 4)
      cyc := (if s.run = .inProgress then s.cyc else s.cfg.runEntryCycles) + 4 }

/-- Under `UNLISTED_POLICY = refuse` an encoding with no handler is given no meaning (00 R7, 30 R61). -/
def Obligations.UnknownOpcodeIsRefusedUnderRefuse : Prop :=
  ∀ (s : State) (lv : Level), s.guardFires = false → s.cfg.unlisted = .refuse → s.fetchDecode = .unknown lv →
    step s = .refused (.unlistedEncoding lv)

/-- The guard fires exactly where `PC_OVERFLOW = stop` and the bit is set; then the step ends the run, fetches nothing and
changes no other state but the start of a run where none was in progress (50 R140). -/
def Obligations.BoundaryGuardEndsTheRun : Prop :=
  ∀ s : State,
    (s.guardFires = true ↔ s.cfg.pcOverflow = .stop ∧ s.pcLeftRange = true) ∧
    (s.guardFires = true → step s = .next { s with
      run := .returned .addressOutOfRange
      cyc := if s.run = .inProgress then s.cyc else s.cfg.runEntryCycles })

/-- Under `PC_OVERFLOW = wrap` no step ends a run with `AddressOutOfRange` and none touches the range bit (50 R140). -/
def Obligations.WrapNeverLeavesTheRange : Prop :=
  ∀ s t : State, s.cfg.pcOverflow = .wrap → step s = .next t →
    t.run ≠ .returned .addressOutOfRange ∧ t.pcLeftRange = s.pcLeftRange

/-! ### Rules about every instruction -/

/-- Every instruction completes in every state: none faults, none is refused (60 R150). -/
def Obligations.EveryInstructionCompletes : Prop :=
  ∀ (i : Instr) (s : State), ∃ t, exec i s = .next t

/-- An instruction that is no control transfer advances `PC` by its length, modulo 65536, and under `stop` sets the range bit
exactly when that passes 0xFFFF; a control transfer never sets it; a bit once set stays (10 R16, 50 R140). -/
def Obligations.SequentialAdvanceAndTheRangeBit : Prop :=
  ∀ (i : Instr) (s : State), ∃ t, exec i s = .next t ∧
    (¬ isTransfer i → t.pc = s.pc + BitVec.ofNat 16 (encode i).length ∧
      (t.pcLeftRange = true ↔ s.pcLeftRange = true ∨
        (s.cfg.pcOverflow = .stop ∧ 65535 < s.pc.toNat + (encode i).length))) ∧
    (isTransfer i → t.pcLeftRange = s.pcLeftRange)

/-- Every instruction costs 4 to 20 cycles where the three open costs do (70 R177, 00 R7). -/
def Obligations.EveryCostIsFourToTwenty : Prop :=
  ∀ (i : Instr) (s : State), s.cfg.costsBounded = true →
    ∃ t, exec i s = .next t ∧ s.cyc + 4 ≤ t.cyc ∧ t.cyc ≤ s.cyc + 20

/-- No instruction writes the shadow set, `I`, `R`, `IFF`, `unk_count` or the parameters (10 R12, R21, R22, R23, R25). -/
def Obligations.NoInstructionWritesHiddenRegisters : Prop :=
  ∀ (i : Instr) (s : State), ∃ t, exec i s = .next t ∧
    t.shadow = s.shadow ∧ t.i = s.i ∧ t.r = s.r ∧ t.iff = s.iff ∧ t.unkCount = s.unkCount ∧ t.cfg = s.cfg

/-- No instruction reads them either, nor the cycle total: whatever they hold, the rest of the result is the same and the
cost is the same (10 R12, R21 to R25, 70 R178). -/
def Obligations.HiddenRegistersInfluenceNothing : Prop :=
  ∀ (i : Instr) (s t : State) (g : RegSet) (v w : Byte) (b : Bool) (m n : Nat), exec i s = .next t →
    exec i { s with shadow := g, i := v, r := w, iff := b, unkCount := m, cyc := n } =
      .next { t with shadow := g, i := v, r := w, iff := b, unkCount := m, cyc := n + (t.cyc - s.cyc) }

/-- No flag but the carry is read by any instruction: two states that differ in the other flags alone go to states that
differ in the flags alone, where each bit of the flags byte is either the same in both or kept by the instruction from the
byte it found, and the carry is the same in both (10 R18). -/
def Obligations.OnlyTheCarryFlagIsRead : Prop :=
  ∀ (i : Instr) (s t : State) (f : Byte), f.getLsbD 0 = s.regs.f.getLsbD 0 → exec i s = .next t →
    ∃ f', exec i { s with regs := { s.regs with f := f } } = .next { t with regs := { t.regs with f := f' } } ∧
      f'.getLsbD 0 = t.regs.f.getLsbD 0 ∧
      ∀ k, f'.getLsbD k = t.regs.f.getLsbD k ∨
        (t.regs.f.getLsbD k = s.regs.f.getLsbD k ∧ f'.getLsbD k = f.getLsbD k)

/-- Flags are unaffected by every instruction but those of the table of 10 R18. -/
def Obligations.FlagsKeptOutsideTheFlagTable : Prop :=
  ∀ (i : Instr) (s : State), ∃ t, exec i s = .next t ∧ (¬ writesFlags i → t.regs.f = s.regs.f)

/-- Only the stores, `CALL` and the `(HL)` rotates write memory; every other instruction leaves every cell (20 R32). -/
def Obligations.MemoryKeptOutsideTheStores : Prop :=
  ∀ (i : Instr) (s : State), ∃ t, exec i s = .next t ∧ (¬ writesMemory i → ∀ a : Word, t.memRead a = s.memRead a)

/-- `IX` and `IY` are written by their loads alone (10 R13, 47 R126, R127). -/
def Obligations.IndexRegistersWrittenByTheirLoadsAlone : Prop :=
  ∀ (i : Instr) (s t : State), exec i s = .next t →
    (t.ix ≠ s.ix → ∃ nn, i = .ldIxNn nn) ∧ (t.iy ≠ s.iy → ∃ nn, i = .ldIyNn nn)

/-- `SP` is written by `LD SP,nn`, `CALL nn` and `RET` alone (10 R14). -/
def Obligations.StackPointerWrittenByThreeInstructions : Prop :=
  ∀ (i : Instr) (s t : State), exec i s = .next t → t.sp ≠ s.sp →
    (∃ nn, i = .ldSpNn nn) ∨ (∃ nn, i = .callNn nn) ∨ i = .ret

/-! ### Loads and stores -/

/-- `LD r,n` for the seven registers (40 R66). -/
def Obligations.LoadRegisterImmediate : Prop :=
  ∀ (q : Reg8) (n : Byte) (s : State), encode (.ldReg q n) = [0b00#2 ++ r8Code q ++ 0b110#3, n] ∧
    (∀ b1 b2 b3, decode 0b00110110 b1 b2 b3 = .unknown .u) ∧
    ∃ t, exec (.ldReg q n) s = .next t ∧
    t.reg8 q = n ∧ (∀ q', q' ≠ q → t.reg8 q' = s.reg8 q') ∧ t.regs.f = s.regs.f ∧
    (∀ a, t.memRead a = s.memRead a) ∧
    t = { s with regs := t.regs, pc := s.pc + 2, pcLeftRange := s.leavesRange 2, cyc := s.cyc + 7 }

/-- `LD rr,nn` for the four pairs: a pair is written in both halves, the other registers are left (40 R67). -/
def Obligations.LoadPairImmediate : Prop :=
  ∀ (p : Reg16) (nn : Word) (s : State), encode (.ldPair p nn) = (0b00#2 ++ rpCode p ++ 0b0001#4) :: immediate nn ∧
    ∃ t, exec (.ldPair p nn) s = .next t ∧
    t.reg16 p = nn ∧ (∀ p', p' ≠ p → t.reg16 p' = s.reg16 p') ∧ t.regs.a = s.regs.a ∧ t.regs.f = s.regs.f ∧
    (∀ a, t.memRead a = s.memRead a) ∧
    t = { s with
      regs := t.regs, sp := t.sp, pc := s.pc + 3, pcLeftRange := s.leavesRange 3, cyc := s.cyc + 10 }

/-- `LD (BC),A` and `LD (DE),A`: one cell takes `A`, no other cell and no register changes (40 R68, R69). -/
def Obligations.StoreAccumulatorThroughPair : Prop :=
  ∀ s : State, s.mem.wf = true →
    encode .ldIndBcA = [0x02] ∧ encode .ldIndDeA = [0x12] ∧
    (∃ t, exec .ldIndBcA s = .next t ∧
      (∀ a, t.memRead a = if a = s.reg16 .bc then s.regs.a else s.memRead a) ∧
      t = { s with mem := t.mem, pc := s.pc + 1, pcLeftRange := s.leavesRange 1, cyc := s.cyc + 7 }) ∧
    (∃ t, exec .ldIndDeA s = .next t ∧
      (∀ a, t.memRead a = if a = s.reg16 .de then s.regs.a else s.memRead a) ∧
      t = { s with mem := t.mem, pc := s.pc + 1, pcLeftRange := s.leavesRange 1, cyc := s.cyc + 7 })

/-- `LD (HL),r` for the seven registers (40 R70). -/
def Obligations.StoreRegisterThroughHl : Prop :=
  ∀ (q : Reg8) (s : State), s.mem.wf = true → encode (.stHl q) = [0b01110#5 ++ r8Code q] ∧
    ∃ t, exec (.stHl q) s = .next t ∧
    (∀ a, t.memRead a = if a = s.reg16 .hl then s.reg8 q else s.memRead a) ∧
    t = { s with mem := t.mem, pc := s.pc + 1, pcLeftRange := s.leavesRange 1, cyc := s.cyc + 7 }

/-- A store is seen by every later fetch with nothing further to do: after each instruction that stores, a fetch at any
address, the next one included, decodes the stored bytes where they were stored and the old bytes elsewhere. The
instruction itself is the one fetched before its store (20 R42). -/
def Obligations.AStoreIsSeenByTheNextFetch : Prop :=
  ∀ s : State, s.mem.wf = true → s.guardFires = false →
    (s.fetchDecode = .instr .ldIndBcA → ∃ t, step s = .next t ∧ t.pc = s.pc + 1 ∧
      t.fetchesFrom fun a => if a = s.reg16 .bc then s.regs.a else s.memRead a) ∧
    (s.fetchDecode = .instr .ldIndDeA → ∃ t, step s = .next t ∧ t.pc = s.pc + 1 ∧
      t.fetchesFrom fun a => if a = s.reg16 .de then s.regs.a else s.memRead a) ∧
    (∀ q, s.fetchDecode = .instr (.stHl q) → ∃ t, step s = .next t ∧ t.pc = s.pc + 1 ∧
      t.fetchesFrom fun a => if a = s.reg16 .hl then s.reg8 q else s.memRead a) ∧
    (∀ x d, s.fetchDecode = .instr (.stIndex x d) → ∃ t, step s = .next t ∧ t.pc = s.pc + 3 ∧
      t.fetchesFrom fun a => if a = s.index x + BitVec.ofInt 16 d then s.regs.a else s.memRead a) ∧
    (∀ nn, s.fetchDecode = .instr (.callNn nn) → ∃ t, step s = .next t ∧ t.pc = nn ∧
      t.fetchesFrom fun a =>
        if a = s.sp - 2 then BitVec.ofNat 8 (s.pc + 3).toNat
        else if a = s.sp - 1 then BitVec.ofNat 8 ((s.pc + 3).toNat / 256)
        else s.memRead a) ∧
    (∀ op, s.fetchDecode = .instr (.rotHl op) → ∃ t, step s = .next t ∧ t.pc = s.pc + 2 ∧
      ∃ v : Byte, (∀ k, k < 8 →
        v.getLsbD k = rotatedBit op (s.memRead (s.reg16 .hl)) (s.regs.f.getLsbD 0) k) ∧
      t.fetchesFrom fun a => if a = s.reg16 .hl then v else s.memRead a)

/-! ### 8-bit arithmetic -/

/-- `ADD A,r` for the seven registers, `A` itself among them (41 R73, R74). -/
def Obligations.AddRegister : Prop :=
  ∀ (q : Reg8) (s : State), encode (.add q) = [0b10000#5 ++ r8Code q] ∧
    (∀ b1 b2 b3, decode 0b10000110 b1 b2 b3 = .unknown .u) ∧
    ∃ t, exec (.add q) s = .next t ∧
    t.reg8 .a = s.reg8 .a + s.reg8 q ∧ (∀ q', q' ≠ .a → t.reg8 q' = s.reg8 q') ∧
    t.regs.f = flagsByte ((t.reg8 .a).getLsbD 7) (decide (t.reg8 .a = 0))
      ((s.reg8 .a ^^^ s.reg8 q ^^^ t.reg8 .a).getLsbD 4) false
      (decide (255 < (s.reg8 .a).toNat + (s.reg8 q).toNat)) ∧
    (∀ a, t.memRead a = s.memRead a) ∧
    t = { s with regs := t.regs, pc := s.pc + 1, pcLeftRange := s.leavesRange 1, cyc := s.cyc + 4 }

/-- `SUB r` for the seven registers (41 R73, R75). -/
def Obligations.SubtractRegister : Prop :=
  ∀ (q : Reg8) (s : State), encode (.sub q) = [0b10010#5 ++ r8Code q] ∧
    (∀ b1 b2 b3, decode 0b10010110 b1 b2 b3 = .unknown .u) ∧
    ∃ t, exec (.sub q) s = .next t ∧
    t.reg8 .a = s.reg8 .a - s.reg8 q ∧ (∀ q', q' ≠ .a → t.reg8 q' = s.reg8 q') ∧
    t.regs.f = flagsByte ((t.reg8 .a).getLsbD 7) (decide (t.reg8 .a = 0))
      ((s.reg8 .a ^^^ s.reg8 q ^^^ t.reg8 .a).getLsbD 4) true
      (decide ((s.reg8 .a).toNat < (s.reg8 q).toNat)) ∧
    (∀ a, t.memRead a = s.memRead a) ∧
    t = { s with regs := t.regs, pc := s.pc + 1, pcLeftRange := s.leavesRange 1, cyc := s.cyc + 4 }

/-- H after an 8-bit addition is the carry into bit 4, after a subtraction the borrow from it, for all operand pairs
(41 R73). -/
def Obligations.HalfCarryIsTheNibbleCarry : Prop :=
  ∀ a b : Byte,
    ((add8 a b).2.getLsbD 4 = true ↔ 15 < a.toNat % 16 + b.toNat % 16) ∧
    ((sub8 a b).2.getLsbD 4 = true ↔ a.toNat % 16 < b.toNat % 16)

/-! ### 16-bit arithmetic with carry -/

/-- `ADC HL,rr` for the four pairs, `HL` itself among them (42 R80, R81). -/
def Obligations.AddPairWithCarry : Prop :=
  ∀ (p : Reg16) (s : State), encode (.adc p) = [0xED, 0b01#2 ++ rpCode p ++ 0b1010#4] ∧
    ∃ t, exec (.adc p) s = .next t ∧
    t.reg16 .hl = BitVec.ofNat 16 ((s.reg16 .hl).toNat + (s.reg16 p).toNat + (s.regs.f.getLsbD 0).toNat) ∧
    t.regs.f = flagsByte ((t.reg16 .hl).getLsbD 15) (decide (t.reg16 .hl = 0))
      ((s.reg16 .hl ^^^ s.reg16 p ^^^ t.reg16 .hl).getLsbD 12) false
      (decide (65535 < (s.reg16 .hl).toNat + (s.reg16 p).toNat + (s.regs.f.getLsbD 0).toNat)) ∧
    (∀ a, t.memRead a = s.memRead a) ∧
    t = { s with
      regs := { s.regs with h := t.regs.h, l := t.regs.l, f := t.regs.f }
      pc := s.pc + 2, pcLeftRange := s.leavesRange 2, cyc := s.cyc + 15 }

/-- `SBC HL,rr` for the four pairs (42 R80, R82). -/
def Obligations.SubtractPairWithCarry : Prop :=
  ∀ (p : Reg16) (s : State), encode (.sbc p) = [0xED, 0b01#2 ++ rpCode p ++ 0b0010#4] ∧
    ∃ t, exec (.sbc p) s = .next t ∧
    t.reg16 .hl = s.reg16 .hl - s.reg16 p - (if s.regs.f.getLsbD 0 then 1 else 0) ∧
    t.regs.f = flagsByte ((t.reg16 .hl).getLsbD 15) (decide (t.reg16 .hl = 0))
      ((s.reg16 .hl ^^^ s.reg16 p ^^^ t.reg16 .hl).getLsbD 12) true
      (decide ((s.reg16 .hl).toNat < (s.reg16 p).toNat + (s.regs.f.getLsbD 0).toNat)) ∧
    (∀ a, t.memRead a = s.memRead a) ∧
    t = { s with
      regs := { s.regs with h := t.regs.h, l := t.regs.l, f := t.regs.f }
      pc := s.pc + 2, pcLeftRange := s.leavesRange 2, cyc := s.cyc + 15 }

/-- H after `ADC16` is the carry into bit 12, after `SBC16` the borrow from it, carry in included (42 R80). -/
def Obligations.HalfCarryIsTheTwelveBitCarry : Prop :=
  ∀ (a b : Word) (c : Bool),
    ((adc16 a b c).2.getLsbD 4 = true ↔ 4095 < a.toNat % 4096 + b.toNat % 4096 + c.toNat) ∧
    ((sbc16 a b c).2.getLsbD 4 = true ↔ a.toNat % 4096 < b.toNat % 4096 + c.toNat)

/-! ### Rotates and shift -/

/-- `RLC`, `RRC`, `RL`, `RR`, `SRA` of the seven registers: the result bit by bit, C the shifted-out bit unless the operation
is in `ROT_CARRY_UNTOUCHED` (43 R86, R87, R89, R91, R93, R95). -/
def Obligations.RotateRegister : Prop :=
  ∀ (op : RotOp) (q : Reg8) (s : State), encode (.rotReg op q) = [0xCB, 0b00#2 ++ rotCode op ++ r8Code q] ∧
    ∃ t, exec (.rotReg op q) s = .next t ∧
    (∀ k, k < 8 → (t.reg8 q).getLsbD k = rotatedBit op (s.reg8 q) (s.regs.f.getLsbD 0) k) ∧
    (∀ q', q' ≠ q → t.reg8 q' = s.reg8 q') ∧
    t.regs.f = flagsByte ((t.reg8 q).getLsbD 7) (decide (t.reg8 q = 0)) false false
      (if op ∈ s.cfg.rotCarryUntouched then s.regs.f.getLsbD 0 else shiftedOut op (s.reg8 q)) ∧
    (∀ a, t.memRead a = s.memRead a) ∧
    t = { s with regs := t.regs, pc := s.pc + 2, pcLeftRange := s.leavesRange 2, cyc := s.cyc + 8 }

/-- The same operations on the cell at `HL`, which alone of memory changes (43 R86, R88, R90, R92, R94, R96). -/
def Obligations.RotateCellAtHl : Prop :=
  ∀ (op : RotOp) (s : State), s.mem.wf = true → encode (.rotHl op) = [0xCB, 0b00#2 ++ rotCode op ++ 0b110#3] ∧
    ∃ t, exec (.rotHl op) s = .next t ∧
    (∀ k, k < 8 → (t.memRead (s.reg16 .hl)).getLsbD k =
      rotatedBit op (s.memRead (s.reg16 .hl)) (s.regs.f.getLsbD 0) k) ∧
    (∀ a, a ≠ s.reg16 .hl → t.memRead a = s.memRead a) ∧
    t.regs.f = flagsByte ((t.memRead (s.reg16 .hl)).getLsbD 7) (decide (t.memRead (s.reg16 .hl) = 0)) false false
      (if op ∈ s.cfg.rotCarryUntouched then s.regs.f.getLsbD 0 else shiftedOut op (s.memRead (s.reg16 .hl))) ∧
    t = { s with
      regs := { s.regs with f := t.regs.f }
      mem := t.mem, pc := s.pc + 2, pcLeftRange := s.leavesRange 2, cyc := s.cyc + 12 }

/-! ### Bit tests -/

/-- The bit-test helper: Z set if and only if the tested bit is 0, H set, S set if and only if the index is 7 and bit 7 is 1,
every other bit kept (10 R20, 44 R100). -/
def Obligations.BitTestFlags : Prop :=
  ∀ (f v : Byte) (b : Fin 8),
    ((bitf f v b).getLsbD 6 = true ↔ v.getLsbD b = false) ∧ (bitf f v b).getLsbD 4 = true ∧
    ((bitf f v b).getLsbD 7 = true ↔ b = 7 ∧ v.getLsbD 7 = true) ∧
    ∀ k, k ≠ 7 → k ≠ 6 → k ≠ 4 → (bitf f v b).getLsbD k = f.getLsbD k

/-- `BIT b,r` for the eight bits and seven registers writes `F` alone (44 R100, R101). -/
def Obligations.TestBitOfRegister : Prop :=
  ∀ (b : Fin 8) (q : Reg8) (s : State), encode (.bitReg b q) = [0xCB, 0b01#2 ++ BitVec.ofFin (w := 3) b ++ r8Code q] ∧
    ∃ t, exec (.bitReg b q) s = .next t ∧
    (t.regs.f.getLsbD 6 = !(s.reg8 q).getLsbD b) ∧ t.regs.f.getLsbD 4 = true ∧
    (t.regs.f.getLsbD 7 = (decide (b = 7) && (s.reg8 q).getLsbD 7)) ∧
    (∀ k, k ≠ 7 → k ≠ 6 → k ≠ 4 → t.regs.f.getLsbD k = s.regs.f.getLsbD k) ∧
    (∀ a, t.memRead a = s.memRead a) ∧
    t = { s with
      regs := { s.regs with f := t.regs.f }
      pc := s.pc + 2, pcLeftRange := s.leavesRange 2, cyc := s.cyc + 12 }

/-- `BIT b,(HL)` for the eight bits writes `F` alone (44 R100, R102). -/
def Obligations.TestBitOfCellAtHl : Prop :=
  ∀ (b : Fin 8) (s : State), encode (.bitHl b) = [0xCB, 0b01#2 ++ BitVec.ofFin (w := 3) b ++ 0b110#3] ∧
    ∃ t, exec (.bitHl b) s = .next t ∧
    (t.regs.f.getLsbD 6 = !(s.memRead (s.reg16 .hl)).getLsbD b) ∧ t.regs.f.getLsbD 4 = true ∧
    (t.regs.f.getLsbD 7 = (decide (b = 7) && (s.memRead (s.reg16 .hl)).getLsbD 7)) ∧
    (∀ k, k ≠ 7 → k ≠ 6 → k ≠ 4 → t.regs.f.getLsbD k = s.regs.f.getLsbD k) ∧
    (∀ a, t.memRead a = s.memRead a) ∧
    t = { s with
      regs := { s.regs with f := t.regs.f }
      pc := s.pc + 2, pcLeftRange := s.leavesRange 2, cyc := s.cyc + 12 }

/-- `BIT b,(IX+d)` and `BIT b,(IY+d)` test the cell at `index + d`, modulo 65536, and write `F` alone (47 R132, R133). -/
def Obligations.TestBitOfIndexedCell : Prop :=
  ∀ (x : IndexReg) (b : Fin 8) (d : Int) (s : State),
    encode (.bitIndex x b d) = [indexByte x, 0xCB, BitVec.ofInt 8 d, 0b01#2 ++ BitVec.ofFin (w := 3) b ++ 0b110#3] ∧
    ∃ t, exec (.bitIndex x b d) s = .next t ∧
    (t.regs.f.getLsbD 6 = !(s.memRead (s.index x + BitVec.ofInt 16 d)).getLsbD b) ∧ t.regs.f.getLsbD 4 = true ∧
    (t.regs.f.getLsbD 7 = (decide (b = 7) && (s.memRead (s.index x + BitVec.ofInt 16 d)).getLsbD 7)) ∧
    (∀ k, k ≠ 7 → k ≠ 6 → k ≠ 4 → t.regs.f.getLsbD k = s.regs.f.getLsbD k) ∧
    (∀ a, t.memRead a = s.memRead a) ∧
    t = { s with
      regs := { s.regs with f := t.regs.f }
      pc := s.pc + 4, pcLeftRange := s.leavesRange 4, cyc := s.cyc + 20 }

/-! ### Control transfer -/

/-- `JP nn` sets `PC` and charges 10 cycles, nothing else (45 R106). -/
def Obligations.JumpAbsolute : Prop :=
  ∀ (nn : Word) (s : State), encode (.jpNn nn) = 0xC3 :: immediate nn ∧
    exec (.jpNn nn) s = .next { s with pc := nn, cyc := s.cyc + 10 }

/-- `JR e` jumps to the address after the instruction plus `e`, modulo 65536 (45 R107). -/
def Obligations.JumpRelative : Prop :=
  ∀ (e : Int) (s : State), encode (.jrE e) = [0x18, BitVec.ofInt 8 e] ∧
    ∃ t, exec (.jrE e) s = .next t ∧
    (t.pc.toNat : Int) = (s.pc.toNat + 2 + e) % 65536 ∧
    (∀ a, t.memRead a = s.memRead a) ∧ t = { s with pc := t.pc, cyc := s.cyc + 12 }

/-- `CALL nn` lowers `SP` by 2, writes the return address there, low byte at the lower address, and jumps (45 R108). -/
def Obligations.CallPushesTheReturnAddress : Prop :=
  ∀ (nn : Word) (s : State), s.mem.wf = true → encode (.callNn nn) = 0xCD :: immediate nn ∧
    ∃ t, exec (.callNn nn) s = .next t ∧
    (∀ a, t.memRead a =
      if a = s.sp - 2 then BitVec.ofNat 8 (s.pc + 3).toNat
      else if a = s.sp - 1 then BitVec.ofNat 8 ((s.pc + 3).toNat / 256)
      else s.memRead a) ∧
    t = { s with mem := t.mem, sp := s.sp - 2, pc := nn, cyc := s.cyc + 17 }

/-- `RET` takes `PC` from the two cells at `SP`, low byte first, and raises `SP` by 2 (45 R109). -/
def Obligations.ReturnPopsTheReturnAddress : Prop :=
  ∀ s : State, encode .ret = [0xC9] ∧
    ∃ t, exec .ret s = .next t ∧
    t.pc.toNat = 256 * (s.memRead (s.sp + 1)).toNat + (s.memRead s.sp).toNat ∧
    (∀ a, t.memRead a = s.memRead a) ∧
    t = { s with pc := t.pc, sp := s.sp + 2, cyc := s.cyc + 10 }

/-- The round trip: `CALL` followed at once by `RET` comes back to the instruction after the `CALL` with `SP` restored, for
every target and every `SP`, where the byte at the target is still `RET` after the push (45 R110). -/
def Obligations.CallThenReturnComesBack : Prop :=
  ∀ (s : State) (nn : Word), s.mem.wf = true → s.guardFires = false → s.fetchDecode = .instr (.callNn nn) →
    ∃ t, step s = .next t ∧ (t.memRead nn = 0xC9 →
      ∃ u, step t = .next u ∧ u.pc = s.pc + 3 ∧ u.sp = s.sp)

/-! ### `NOP`, `SCF`, `HALT` -/

/-- `NOP` advances `PC` and charges 4 cycles; `SCF` does so too and clears H and N, sets C and keeps the rest of `F`
(46 R117, R118). -/
def Obligations.NopAndSetCarry : Prop :=
  ∀ s : State,
    encode .nop = [0x00] ∧ encode .scf = [0x37] ∧
    exec .nop s = .next { s with pc := s.pc + 1, pcLeftRange := s.leavesRange 1, cyc := s.cyc + 4 } ∧
    ∃ t, exec .scf s = .next t ∧
      (t.regs.f.getLsbD 4 = false ∧ t.regs.f.getLsbD 1 = false ∧ t.regs.f.getLsbD 0 = true ∧
        ∀ k, k ≠ 4 → k ≠ 1 → k ≠ 0 → t.regs.f.getLsbD k = s.regs.f.getLsbD k) ∧
      t = { s with
        regs := { s.regs with f := t.regs.f }
        pc := s.pc + 1, pcLeftRange := s.leavesRange 1, cyc := s.cyc + 4 }

/-- `HALT` (0x76) advances, charges 4 cycles and ends the run; it is the only instruction that ends one, and it leaves an
ordinary state, from which a later run goes on (46 R116). -/
def Obligations.HaltAloneEndsTheRun : Prop :=
  encode .halt = [0x76] ∧
  (∀ s : State, exec .halt s = .next { s with
    pc := s.pc + 1, pcLeftRange := s.leavesRange 1, cyc := s.cyc + 4, run := .returned .halt }) ∧
  (∀ (i : Instr) (s t : State), exec i s = .next t → t.run ≠ s.run → i = .halt) ∧
  ∀ (s t : State) (budget : Nat), exec .halt s = .next t → run budget t = run budget { t with run := s.run }

/-! ### Index-register instructions -/

/-- `LD IX,nn` and `LD IY,nn` write the selected register alone (47 R126, R127). -/
def Obligations.LoadIndexImmediate : Prop :=
  ∀ (nn : Word) (s : State),
    (∀ x, encode (.ldIndex x nn) = indexByte x :: 0x21 :: immediate nn) ∧
    exec (.ldIxNn nn) s = .next { s with
      ix := nn, pc := s.pc + 4, pcLeftRange := s.leavesRange 4, cyc := s.cyc + s.cfg.cycLdIdxNn } ∧
    exec (.ldIyNn nn) s = .next { s with
      iy := nn, pc := s.pc + 4, pcLeftRange := s.leavesRange 4, cyc := s.cyc + s.cfg.cycLdIdxNn }

/-- `LD (IX+d),A` and `LD (IY+d),A` store `A` at `index + d`, modulo 65536, and change no register (47 R128, R129). -/
def Obligations.StoreAccumulatorIndexed : Prop :=
  ∀ (x : IndexReg) (d : Int) (s : State), s.mem.wf = true →
    encode (.stIndex x d) = [indexByte x, 0x77, BitVec.ofInt 8 d] ∧
    ∃ t, exec (.stIndex x d) s = .next t ∧
    (∀ a, t.memRead a = if a = s.index x + BitVec.ofInt 16 d then s.regs.a else s.memRead a) ∧
    t = { s with
      mem := t.mem, pc := s.pc + 3, pcLeftRange := s.leavesRange 3, cyc := s.cyc + s.cfg.cycStIdxA }

/-- `SUB (IX+d)` and `SUB (IY+d)`, with the flags of `SUB r`; memory is not written (47 R130, R131). -/
def Obligations.SubtractIndexed : Prop :=
  ∀ (x : IndexReg) (d : Int) (s : State),
    encode (.subIndex x d) = [indexByte x, 0x96, BitVec.ofInt 8 d] ∧
    ∃ t, exec (.subIndex x d) s = .next t ∧
    t.regs.a = s.regs.a - s.memRead (s.index x + BitVec.ofInt 16 d) ∧
    t.regs.f = flagsByte (t.regs.a.getLsbD 7) (decide (t.regs.a = 0))
      ((s.regs.a ^^^ s.memRead (s.index x + BitVec.ofInt 16 d) ^^^ t.regs.a).getLsbD 4) true
      (decide (s.regs.a.toNat < (s.memRead (s.index x + BitVec.ofInt 16 d)).toNat)) ∧
    (∀ a, t.memRead a = s.memRead a) ∧
    t = { s with
      regs := { s.regs with a := t.regs.a, f := t.regs.f }
      pc := s.pc + 3, pcLeftRange := s.leavesRange 3, cyc := s.cyc + s.cfg.cycSubIdx }

/-! ### The run loop and the host -/

/-- A run overshoots its budget by at most one instruction: `cycles_executed <= budget - 1 + 20`; it is no less than the
budget where the budget ended it, and it is the machine's cycle total (50 R139). `fuel`, the number of iterations
followed, is the device of the model, log entry 13; the bound holds for every value of it. -/
def Obligations.RunOvershootsByAtMostOneInstruction : Prop :=
  ∀ (fuel budget cycles : Nat) (reason : StopReason) (s t : State),
    s.cfg.runEntryCycles = 0 → s.cfg.costsBounded = true →
    runWithin fuel budget s = .returned cycles reason t →
    cycles ≤ budget + 19 ∧ (reason = .budgetExhausted → budget ≤ cycles) ∧ t.cyc = cycles ∧ t.run = .returned reason

/-- A run always returns, after at most `ceil(budget / 4)` instructions (50 R146): the iteration after them finds the
budget spent. That a run is followed for a number of iterations is the device of the model, log entry 13. -/
def Obligations.RunReturnsWithinAQuarterOfItsBudget : Prop :=
  ∀ (budget : Nat) (s : State), s.cfg.unlisted = .unknownNop → s.cfg.costsBounded = true →
    ∃ cycles reason t, runWithin ((budget + 3) / 4 + 1) budget s = .returned cycles reason t

/-- `run` as the model computes it is the loop of 50 R138: where every cost is positive it returns, and following the loop
longer changes nothing once it has returned (log entry 13). -/
def Obligations.RunIsFollowedToItsEnd : Prop :=
  (∀ (budget : Nat) (s : State), s.cfg.unlisted = .unknownNop → s.cfg.costsPositive = true →
    ∃ cycles reason t, run budget s = .returned cycles reason t) ∧
  ∀ (fuel more budget cycles : Nat) (reason : StopReason) (s t : State),
    runWithin fuel budget s = .returned cycles reason t →
    runWithin (fuel + more) budget s = .returned cycles reason t

/-- The checks of one iteration, in the order of 60 R156: the budget, the boundary guard, fetch and dispatch, and the halt
test after the instruction. -/
def Obligations.AnIterationChecksInOrder : Prop :=
  ∀ (fuel budget : Nat) (s : State), s.run = .inProgress →
    (budget ≤ s.cyc → runLoop (fuel + 1) budget s =
      .returned s.cyc .budgetExhausted { s with run := .returned .budgetExhausted }) ∧
    (s.cyc < budget → s.guardFires = true → runLoop (fuel + 1) budget s =
      .returned s.cyc .addressOutOfRange { s with run := .returned .addressOutOfRange }) ∧
    (∀ i, s.cyc < budget → s.guardFires = false → s.fetchDecode = .instr i →
      ∃ t, exec i s.fetched = .next t ∧
        runLoop (fuel + 1) budget s = if i = .halt then .returned t.cyc .halt t else runLoop fuel budget t) ∧
    (∀ lv, s.cyc < budget → s.guardFires = false → s.fetchDecode = .unknown lv → s.cfg.unlisted = .unknownNop →
      ∃ t, raiseUnknownOpcode lv s.fetched = .next t ∧ runLoop (fuel + 1) budget s = runLoop fuel budget t)

/-- A single step from outside is a run with budget 1: it executes exactly one instruction, known or unknown (60 R162,
50 R136). -/
def Obligations.RunWithBudgetOneIsASingleStep : Prop :=
  ∀ s : State, s.cfg.runEntryCycles = 0 → s.guardFires = false →
    (∀ i, s.cfg.costsBounded = true → s.fetchDecode = .instr i →
      ∃ t, exec i s.beginRun.fetched = .next t ∧
        run 1 s = .returned t.cyc (if i = .halt then .halt else .budgetExhausted)
          { t with run := .returned (if i = .halt then .halt else .budgetExhausted) }) ∧
    (∀ lv, s.cfg.unlisted = .unknownNop → s.fetchDecode = .unknown lv →
      run 1 s = .returned 4 .budgetExhausted { s with
        r := BitVec.ofNat 8 ((s.r.toNat + 1) % 128)
        unkCount := s.unkCount + 1
        pc := s.pc + (match lv with | .u => 1 | .cb => 2 | .ed => 2 | .xy => 2 | .xycb => 4)
        pcLeftRange := s.leavesRange (match lv with | .u => 1 | .cb => 2 | .ed => 2 | .xy => 2 | .xycb => 4)
        cyc := 4
        run := .returned .budgetExhausted })

/-- Every run starts afresh: with budget 0 it returns at once, with `RUN_ENTRY_CYCLES` as its total and no register or memory
cell changed, and it depends neither on the reason nor on the total an earlier run returned, so a machine that returned by
`HALT` runs on like any other (50 R138, R142, R147). -/
def Obligations.EveryRunStartsAfresh : Prop :=
  (∀ s : State, run 0 s = .returned s.cfg.runEntryCycles .budgetExhausted
    { s with cyc := s.cfg.runEntryCycles, run := .returned .budgetExhausted }) ∧
  ∀ (budget n : Nat) (status : RunStatus) (s : State), run budget { s with run := status, cyc := n } = run budget s

/-- The loader: both failures change nothing; otherwise the first cells are the sequence and every other cell is as it was,
0 in a fresh machine; no register changes (50 R141). -/
def Obligations.LoaderCopiesTheImage : Prop :=
  ∀ s : State, s.mem.wf = true →
    s.load none = (.ioFailure, s) ∧
    (∀ bytes : List Byte, 65536 < bytes.length → s.load (some bytes) = (.loadTooLarge, s)) ∧
    ∀ bytes : List Byte, bytes.length ≤ 65536 → ∃ t, s.load (some bytes) = (.ok, t) ∧
      (∀ (k : Nat) (h : k < bytes.length), t.memRead (BitVec.ofNat 16 k) = bytes[k]) ∧
      (∀ a : Word, bytes.length ≤ a.toNat → t.memRead a = s.memRead a ∧ (s.mem = [] → t.memRead a = 0)) ∧
      t = { s with mem := t.mem }

/-- The host's table of moves: none during a run, no load once a run has been started; `init` gives the reset state, a load
before the first run is the loader's, `run` is the run loop, and `inspect` changes nothing (50 R145, 20 R44). -/
def Obligations.HostMovesFollowTheTable : Prop :=
  ∀ s : State,
    (s.run = .inProgress → ∀ command, hostMove s command = none) ∧
    (∀ reason, s.run = .returned reason → ∀ source, hostMove s (.load source) = none) ∧
    (s.run = .notStarted → ∀ source,
      hostMove s (.load source) = some (.loaded (s.load source).1, (s.load source).2)) ∧
    (s.run ≠ .inProgress → hostMove s .init = some (.ready, State.resetWith s.cfg)) ∧
    (s.run ≠ .inProgress → ∀ budget, hostMove s (.run budget) = some (run budget s).reply) ∧
    (s.run ≠ .inProgress → ∃ view, hostMove s .inspect = some (.fields view, s) ∧
      view.regs = s.regs ∧ view.shadow = s.shadow ∧ view.ix = s.ix ∧ view.iy = s.iy ∧ view.sp = s.sp ∧ view.pc = s.pc ∧
      view.i = s.i ∧ view.r = s.r ∧ view.iff = s.iff ∧ view.unkCount = s.unkCount)
end

