-- ==== Sys2Proof/Laws/State.lean ====
section
/-! SUPPORT. One lemma per field per update of the state, so that no proof unfolds a record update. -/

namespace Sys2Proof.Machine
variable (s : State)

/-! ### `setReg8` -/

@[simp] theorem State.setReg8_regs (q : Reg8) (v : Byte) : (s.setReg8 q v).regs = s.regs.set q v := rfl
@[simp] theorem State.setReg8_shadow (q : Reg8) (v : Byte) : (s.setReg8 q v).shadow = s.shadow := rfl
@[simp] theorem State.setReg8_ix (q : Reg8) (v : Byte) : (s.setReg8 q v).ix = s.ix := rfl
@[simp] theorem State.setReg8_iy (q : Reg8) (v : Byte) : (s.setReg8 q v).iy = s.iy := rfl
@[simp] theorem State.setReg8_sp (q : Reg8) (v : Byte) : (s.setReg8 q v).sp = s.sp := rfl
@[simp] theorem State.setReg8_pc (q : Reg8) (v : Byte) : (s.setReg8 q v).pc = s.pc := rfl
@[simp] theorem State.setReg8_i (q : Reg8) (v : Byte) : (s.setReg8 q v).i = s.i := rfl
@[simp] theorem State.setReg8_r (q : Reg8) (v : Byte) : (s.setReg8 q v).r = s.r := rfl
@[simp] theorem State.setReg8_iff (q : Reg8) (v : Byte) : (s.setReg8 q v).iff = s.iff := rfl
@[simp] theorem State.setReg8_pcLeftRange (q : Reg8) (v : Byte) : (s.setReg8 q v).pcLeftRange = s.pcLeftRange := rfl
@[simp] theorem State.setReg8_cyc (q : Reg8) (v : Byte) : (s.setReg8 q v).cyc = s.cyc := rfl
@[simp] theorem State.setReg8_unkCount (q : Reg8) (v : Byte) : (s.setReg8 q v).unkCount = s.unkCount := rfl
@[simp] theorem State.setReg8_mem (q : Reg8) (v : Byte) : (s.setReg8 q v).mem = s.mem := rfl
@[simp] theorem State.setReg8_run (q : Reg8) (v : Byte) : (s.setReg8 q v).run = s.run := rfl
@[simp] theorem State.setReg8_cfg (q : Reg8) (v : Byte) : (s.setReg8 q v).cfg = s.cfg := rfl

/-! ### `setF` -/

@[simp] theorem State.setF_regs (v : Byte) : (s.setF v).regs = { s.regs with f := v } := rfl
@[simp] theorem State.setF_shadow (v : Byte) : (s.setF v).shadow = s.shadow := rfl
@[simp] theorem State.setF_ix (v : Byte) : (s.setF v).ix = s.ix := rfl
@[simp] theorem State.setF_iy (v : Byte) : (s.setF v).iy = s.iy := rfl
@[simp] theorem State.setF_sp (v : Byte) : (s.setF v).sp = s.sp := rfl
@[simp] theorem State.setF_pc (v : Byte) : (s.setF v).pc = s.pc := rfl
@[simp] theorem State.setF_i (v : Byte) : (s.setF v).i = s.i := rfl
@[simp] theorem State.setF_r (v : Byte) : (s.setF v).r = s.r := rfl
@[simp] theorem State.setF_iff (v : Byte) : (s.setF v).iff = s.iff := rfl
@[simp] theorem State.setF_pcLeftRange (v : Byte) : (s.setF v).pcLeftRange = s.pcLeftRange := rfl
@[simp] theorem State.setF_cyc (v : Byte) : (s.setF v).cyc = s.cyc := rfl
@[simp] theorem State.setF_unkCount (v : Byte) : (s.setF v).unkCount = s.unkCount := rfl
@[simp] theorem State.setF_mem (v : Byte) : (s.setF v).mem = s.mem := rfl
@[simp] theorem State.setF_run (v : Byte) : (s.setF v).run = s.run := rfl
@[simp] theorem State.setF_cfg (v : Byte) : (s.setF v).cfg = s.cfg := rfl

/-! ### `setReg16` -/

@[simp] theorem State.setReg16_shadow (p : Reg16) (w : Word) : (s.setReg16 p w).shadow = s.shadow := by cases p <;> rfl
@[simp] theorem State.setReg16_ix (p : Reg16) (w : Word) : (s.setReg16 p w).ix = s.ix := by cases p <;> rfl
@[simp] theorem State.setReg16_iy (p : Reg16) (w : Word) : (s.setReg16 p w).iy = s.iy := by cases p <;> rfl
@[simp] theorem State.setReg16_pc (p : Reg16) (w : Word) : (s.setReg16 p w).pc = s.pc := by cases p <;> rfl
@[simp] theorem State.setReg16_i (p : Reg16) (w : Word) : (s.setReg16 p w).i = s.i := by cases p <;> rfl
@[simp] theorem State.setReg16_r (p : Reg16) (w : Word) : (s.setReg16 p w).r = s.r := by cases p <;> rfl
@[simp] theorem State.setReg16_iff (p : Reg16) (w : Word) : (s.setReg16 p w).iff = s.iff := by cases p <;> rfl
@[simp] theorem State.setReg16_pcLeftRange (p : Reg16) (w : Word) : (s.setReg16 p w).pcLeftRange = s.pcLeftRange := by cases p <;> rfl
@[simp] theorem State.setReg16_cyc (p : Reg16) (w : Word) : (s.setReg16 p w).cyc = s.cyc := by cases p <;> rfl
@[simp] theorem State.setReg16_unkCount (p : Reg16) (w : Word) : (s.setReg16 p w).unkCount = s.unkCount := by cases p <;> rfl
@[simp] theorem State.setReg16_mem (p : Reg16) (w : Word) : (s.setReg16 p w).mem = s.mem := by cases p <;> rfl
@[simp] theorem State.setReg16_run (p : Reg16) (w : Word) : (s.setReg16 p w).run = s.run := by cases p <;> rfl
@[simp] theorem State.setReg16_cfg (p : Reg16) (w : Word) : (s.setReg16 p w).cfg = s.cfg := by cases p <;> rfl

/-! ### `setIndex` -/

@[simp] theorem State.setIndex_regs (x : IndexReg) (w : Word) : (s.setIndex x w).regs = s.regs := by cases x <;> rfl
@[simp] theorem State.setIndex_shadow (x : IndexReg) (w : Word) : (s.setIndex x w).shadow = s.shadow := by cases x <;> rfl
@[simp] theorem State.setIndex_sp (x : IndexReg) (w : Word) : (s.setIndex x w).sp = s.sp := by cases x <;> rfl
@[simp] theorem State.setIndex_pc (x : IndexReg) (w : Word) : (s.setIndex x w).pc = s.pc := by cases x <;> rfl
@[simp] theorem State.setIndex_i (x : IndexReg) (w : Word) : (s.setIndex x w).i = s.i := by cases x <;> rfl
@[simp] theorem State.setIndex_r (x : IndexReg) (w : Word) : (s.setIndex x w).r = s.r := by cases x <;> rfl
@[simp] theorem State.setIndex_iff (x : IndexReg) (w : Word) : (s.setIndex x w).iff = s.iff := by cases x <;> rfl
@[simp] theorem State.setIndex_pcLeftRange (x : IndexReg) (w : Word) : (s.setIndex x w).pcLeftRange = s.pcLeftRange := by cases x <;> rfl
@[simp] theorem State.setIndex_cyc (x : IndexReg) (w : Word) : (s.setIndex x w).cyc = s.cyc := by cases x <;> rfl
@[simp] theorem State.setIndex_unkCount (x : IndexReg) (w : Word) : (s.setIndex x w).unkCount = s.unkCount := by cases x <;> rfl
@[simp] theorem State.setIndex_mem (x : IndexReg) (w : Word) : (s.setIndex x w).mem = s.mem := by cases x <;> rfl
@[simp] theorem State.setIndex_run (x : IndexReg) (w : Word) : (s.setIndex x w).run = s.run := by cases x <;> rfl
@[simp] theorem State.setIndex_cfg (x : IndexReg) (w : Word) : (s.setIndex x w).cfg = s.cfg := by cases x <;> rfl

/-! ### `memWrite` -/

@[simp] theorem State.memWrite_regs (a : Word) (v : Byte) : (s.memWrite a v).regs = s.regs := rfl
@[simp] theorem State.memWrite_shadow (a : Word) (v : Byte) : (s.memWrite a v).shadow = s.shadow := rfl
@[simp] theorem State.memWrite_ix (a : Word) (v : Byte) : (s.memWrite a v).ix = s.ix := rfl
@[simp] theorem State.memWrite_iy (a : Word) (v : Byte) : (s.memWrite a v).iy = s.iy := rfl
@[simp] theorem State.memWrite_sp (a : Word) (v : Byte) : (s.memWrite a v).sp = s.sp := rfl
@[simp] theorem State.memWrite_pc (a : Word) (v : Byte) : (s.memWrite a v).pc = s.pc := rfl
@[simp] theorem State.memWrite_i (a : Word) (v : Byte) : (s.memWrite a v).i = s.i := rfl
@[simp] theorem State.memWrite_r (a : Word) (v : Byte) : (s.memWrite a v).r = s.r := rfl
@[simp] theorem State.memWrite_iff (a : Word) (v : Byte) : (s.memWrite a v).iff = s.iff := rfl
@[simp] theorem State.memWrite_pcLeftRange (a : Word) (v : Byte) : (s.memWrite a v).pcLeftRange = s.pcLeftRange := rfl
@[simp] theorem State.memWrite_cyc (a : Word) (v : Byte) : (s.memWrite a v).cyc = s.cyc := rfl
@[simp] theorem State.memWrite_unkCount (a : Word) (v : Byte) : (s.memWrite a v).unkCount = s.unkCount := rfl
@[simp] theorem State.memWrite_mem (a : Word) (v : Byte) : (s.memWrite a v).mem = s.mem.write a.toNat v := rfl
@[simp] theorem State.memWrite_run (a : Word) (v : Byte) : (s.memWrite a v).run = s.run := rfl
@[simp] theorem State.memWrite_cfg (a : Word) (v : Byte) : (s.memWrite a v).cfg = s.cfg := rfl

/-! ### `memWrite16` -/

@[simp] theorem State.memWrite16_regs (a w : Word) : (s.memWrite16 a w).regs = s.regs := rfl
@[simp] theorem State.memWrite16_shadow (a w : Word) : (s.memWrite16 a w).shadow = s.shadow := rfl
@[simp] theorem State.memWrite16_ix (a w : Word) : (s.memWrite16 a w).ix = s.ix := rfl
@[simp] theorem State.memWrite16_iy (a w : Word) : (s.memWrite16 a w).iy = s.iy := rfl
@[simp] theorem State.memWrite16_sp (a w : Word) : (s.memWrite16 a w).sp = s.sp := rfl
@[simp] theorem State.memWrite16_pc (a w : Word) : (s.memWrite16 a w).pc = s.pc := rfl
@[simp] theorem State.memWrite16_i (a w : Word) : (s.memWrite16 a w).i = s.i := rfl
@[simp] theorem State.memWrite16_r (a w : Word) : (s.memWrite16 a w).r = s.r := rfl
@[simp] theorem State.memWrite16_iff (a w : Word) : (s.memWrite16 a w).iff = s.iff := rfl
@[simp] theorem State.memWrite16_pcLeftRange (a w : Word) : (s.memWrite16 a w).pcLeftRange = s.pcLeftRange := rfl
@[simp] theorem State.memWrite16_cyc (a w : Word) : (s.memWrite16 a w).cyc = s.cyc := rfl
@[simp] theorem State.memWrite16_unkCount (a w : Word) : (s.memWrite16 a w).unkCount = s.unkCount := rfl
@[simp] theorem State.memWrite16_mem (a w : Word) : (s.memWrite16 a w).mem = (s.mem.write a.toNat (loByte w)).write (a + 1).toNat (hiByte w) := rfl
@[simp] theorem State.memWrite16_run (a w : Word) : (s.memWrite16 a w).run = s.run := rfl
@[simp] theorem State.memWrite16_cfg (a w : Word) : (s.memWrite16 a w).cfg = s.cfg := rfl

/-! ### `writeOperand` -/

@[simp] theorem State.writeOperand_regs (o : MemOperand) (v : Byte) : (s.writeOperand o v).regs = s.regs := rfl
@[simp] theorem State.writeOperand_shadow (o : MemOperand) (v : Byte) : (s.writeOperand o v).shadow = s.shadow := rfl
@[simp] theorem State.writeOperand_ix (o : MemOperand) (v : Byte) : (s.writeOperand o v).ix = s.ix := rfl
@[simp] theorem State.writeOperand_iy (o : MemOperand) (v : Byte) : (s.writeOperand o v).iy = s.iy := rfl
@[simp] theorem State.writeOperand_sp (o : MemOperand) (v : Byte) : (s.writeOperand o v).sp = s.sp := rfl
@[simp] theorem State.writeOperand_pc (o : MemOperand) (v : Byte) : (s.writeOperand o v).pc = s.pc := rfl
@[simp] theorem State.writeOperand_i (o : MemOperand) (v : Byte) : (s.writeOperand o v).i = s.i := rfl
@[simp] theorem State.writeOperand_r (o : MemOperand) (v : Byte) : (s.writeOperand o v).r = s.r := rfl
@[simp] theorem State.writeOperand_iff (o : MemOperand) (v : Byte) : (s.writeOperand o v).iff = s.iff := rfl
@[simp] theorem State.writeOperand_pcLeftRange (o : MemOperand) (v : Byte) : (s.writeOperand o v).pcLeftRange = s.pcLeftRange := rfl
@[simp] theorem State.writeOperand_cyc (o : MemOperand) (v : Byte) : (s.writeOperand o v).cyc = s.cyc := rfl
@[simp] theorem State.writeOperand_unkCount (o : MemOperand) (v : Byte) : (s.writeOperand o v).unkCount = s.unkCount := rfl
@[simp] theorem State.writeOperand_mem (o : MemOperand) (v : Byte) : (s.writeOperand o v).mem = s.mem.write (s.address o).toNat v := rfl
@[simp] theorem State.writeOperand_run (o : MemOperand) (v : Byte) : (s.writeOperand o v).run = s.run := rfl
@[simp] theorem State.writeOperand_cfg (o : MemOperand) (v : Byte) : (s.writeOperand o v).cfg = s.cfg := rfl

/-! ### `advance` -/

@[simp] theorem State.advance_regs (len : Nat) : (s.advance len).regs = s.regs := rfl
@[simp] theorem State.advance_shadow (len : Nat) : (s.advance len).shadow = s.shadow := rfl
@[simp] theorem State.advance_ix (len : Nat) : (s.advance len).ix = s.ix := rfl
@[simp] theorem State.advance_iy (len : Nat) : (s.advance len).iy = s.iy := rfl
@[simp] theorem State.advance_sp (len : Nat) : (s.advance len).sp = s.sp := rfl
@[simp] theorem State.advance_pc (len : Nat) : (s.advance len).pc = s.pc + BitVec.ofNat 16 len := rfl
@[simp] theorem State.advance_i (len : Nat) : (s.advance len).i = s.i := rfl
@[simp] theorem State.advance_r (len : Nat) : (s.advance len).r = s.r := rfl
@[simp] theorem State.advance_iff (len : Nat) : (s.advance len).iff = s.iff := rfl
@[simp] theorem State.advance_pcLeftRange (len : Nat) : (s.advance len).pcLeftRange = s.leavesRange len := rfl
@[simp] theorem State.advance_cyc (len : Nat) : (s.advance len).cyc = s.cyc := rfl
@[simp] theorem State.advance_unkCount (len : Nat) : (s.advance len).unkCount = s.unkCount := rfl
@[simp] theorem State.advance_mem (len : Nat) : (s.advance len).mem = s.mem := rfl
@[simp] theorem State.advance_run (len : Nat) : (s.advance len).run = s.run := rfl
@[simp] theorem State.advance_cfg (len : Nat) : (s.advance len).cfg = s.cfg := rfl

/-! ### `jump` -/

@[simp] theorem State.jump_regs (w : Word) : (s.jump w).regs = s.regs := rfl
@[simp] theorem State.jump_shadow (w : Word) : (s.jump w).shadow = s.shadow := rfl
@[simp] theorem State.jump_ix (w : Word) : (s.jump w).ix = s.ix := rfl
@[simp] theorem State.jump_iy (w : Word) : (s.jump w).iy = s.iy := rfl
@[simp] theorem State.jump_sp (w : Word) : (s.jump w).sp = s.sp := rfl
@[simp] theorem State.jump_pc (w : Word) : (s.jump w).pc = w := rfl
@[simp] theorem State.jump_i (w : Word) : (s.jump w).i = s.i := rfl
@[simp] theorem State.jump_r (w : Word) : (s.jump w).r = s.r := rfl
@[simp] theorem State.jump_iff (w : Word) : (s.jump w).iff = s.iff := rfl
@[simp] theorem State.jump_pcLeftRange (w : Word) : (s.jump w).pcLeftRange = s.pcLeftRange := rfl
@[simp] theorem State.jump_cyc (w : Word) : (s.jump w).cyc = s.cyc := rfl
@[simp] theorem State.jump_unkCount (w : Word) : (s.jump w).unkCount = s.unkCount := rfl
@[simp] theorem State.jump_mem (w : Word) : (s.jump w).mem = s.mem := rfl
@[simp] theorem State.jump_run (w : Word) : (s.jump w).run = s.run := rfl
@[simp] theorem State.jump_cfg (w : Word) : (s.jump w).cfg = s.cfg := rfl

/-! ### `charge` -/

@[simp] theorem State.charge_regs (n : Nat) : (s.charge n).regs = s.regs := rfl
@[simp] theorem State.charge_shadow (n : Nat) : (s.charge n).shadow = s.shadow := rfl
@[simp] theorem State.charge_ix (n : Nat) : (s.charge n).ix = s.ix := rfl
@[simp] theorem State.charge_iy (n : Nat) : (s.charge n).iy = s.iy := rfl
@[simp] theorem State.charge_sp (n : Nat) : (s.charge n).sp = s.sp := rfl
@[simp] theorem State.charge_pc (n : Nat) : (s.charge n).pc = s.pc := rfl
@[simp] theorem State.charge_i (n : Nat) : (s.charge n).i = s.i := rfl
@[simp] theorem State.charge_r (n : Nat) : (s.charge n).r = s.r := rfl
@[simp] theorem State.charge_iff (n : Nat) : (s.charge n).iff = s.iff := rfl
@[simp] theorem State.charge_pcLeftRange (n : Nat) : (s.charge n).pcLeftRange = s.pcLeftRange := rfl
@[simp] theorem State.charge_cyc (n : Nat) : (s.charge n).cyc = s.cyc + n := rfl
@[simp] theorem State.charge_unkCount (n : Nat) : (s.charge n).unkCount = s.unkCount := rfl
@[simp] theorem State.charge_mem (n : Nat) : (s.charge n).mem = s.mem := rfl
@[simp] theorem State.charge_run (n : Nat) : (s.charge n).run = s.run := rfl
@[simp] theorem State.charge_cfg (n : Nat) : (s.charge n).cfg = s.cfg := rfl

/-! ### `retire` -/

@[simp] theorem State.retire_regs (len cost : Nat) : (s.retire len cost).regs = s.regs := rfl
@[simp] theorem State.retire_shadow (len cost : Nat) : (s.retire len cost).shadow = s.shadow := rfl
@[simp] theorem State.retire_ix (len cost : Nat) : (s.retire len cost).ix = s.ix := rfl
@[simp] theorem State.retire_iy (len cost : Nat) : (s.retire len cost).iy = s.iy := rfl
@[simp] theorem State.retire_sp (len cost : Nat) : (s.retire len cost).sp = s.sp := rfl
@[simp] theorem State.retire_pc (len cost : Nat) : (s.retire len cost).pc = s.pc + BitVec.ofNat 16 len := rfl
@[simp] theorem State.retire_i (len cost : Nat) : (s.retire len cost).i = s.i := rfl
@[simp] theorem State.retire_r (len cost : Nat) : (s.retire len cost).r = s.r := rfl
@[simp] theorem State.retire_iff (len cost : Nat) : (s.retire len cost).iff = s.iff := rfl
@[simp] theorem State.retire_pcLeftRange (len cost : Nat) : (s.retire len cost).pcLeftRange = s.leavesRange len := rfl
@[simp] theorem State.retire_cyc (len cost : Nat) : (s.retire len cost).cyc = s.cyc + cost := rfl
@[simp] theorem State.retire_unkCount (len cost : Nat) : (s.retire len cost).unkCount = s.unkCount := rfl
@[simp] theorem State.retire_mem (len cost : Nat) : (s.retire len cost).mem = s.mem := rfl
@[simp] theorem State.retire_run (len cost : Nat) : (s.retire len cost).run = s.run := rfl
@[simp] theorem State.retire_cfg (len cost : Nat) : (s.retire len cost).cfg = s.cfg := rfl

/-! ### `endRun` -/

@[simp] theorem State.endRun_regs (e : StopReason) : (s.endRun e).regs = s.regs := rfl
@[simp] theorem State.endRun_shadow (e : StopReason) : (s.endRun e).shadow = s.shadow := rfl
@[simp] theorem State.endRun_ix (e : StopReason) : (s.endRun e).ix = s.ix := rfl
@[simp] theorem State.endRun_iy (e : StopReason) : (s.endRun e).iy = s.iy := rfl
@[simp] theorem State.endRun_sp (e : StopReason) : (s.endRun e).sp = s.sp := rfl
@[simp] theorem State.endRun_pc (e : StopReason) : (s.endRun e).pc = s.pc := rfl
@[simp] theorem State.endRun_i (e : StopReason) : (s.endRun e).i = s.i := rfl
@[simp] theorem State.endRun_r (e : StopReason) : (s.endRun e).r = s.r := rfl
@[simp] theorem State.endRun_iff (e : StopReason) : (s.endRun e).iff = s.iff := rfl
@[simp] theorem State.endRun_pcLeftRange (e : StopReason) : (s.endRun e).pcLeftRange = s.pcLeftRange := rfl
@[simp] theorem State.endRun_cyc (e : StopReason) : (s.endRun e).cyc = s.cyc := rfl
@[simp] theorem State.endRun_unkCount (e : StopReason) : (s.endRun e).unkCount = s.unkCount := rfl
@[simp] theorem State.endRun_mem (e : StopReason) : (s.endRun e).mem = s.mem := rfl
@[simp] theorem State.endRun_run (e : StopReason) : (s.endRun e).run = .returned e := rfl
@[simp] theorem State.endRun_cfg (e : StopReason) : (s.endRun e).cfg = s.cfg := rfl

/-! ### `countUnknown` -/

@[simp] theorem State.countUnknown_regs : (s.countUnknown).regs = s.regs := rfl
@[simp] theorem State.countUnknown_shadow : (s.countUnknown).shadow = s.shadow := rfl
@[simp] theorem State.countUnknown_ix : (s.countUnknown).ix = s.ix := rfl
@[simp] theorem State.countUnknown_iy : (s.countUnknown).iy = s.iy := rfl
@[simp] theorem State.countUnknown_sp : (s.countUnknown).sp = s.sp := rfl
@[simp] theorem State.countUnknown_pc : (s.countUnknown).pc = s.pc := rfl
@[simp] theorem State.countUnknown_i : (s.countUnknown).i = s.i := rfl
@[simp] theorem State.countUnknown_r : (s.countUnknown).r = s.r := rfl
@[simp] theorem State.countUnknown_iff : (s.countUnknown).iff = s.iff := rfl
@[simp] theorem State.countUnknown_pcLeftRange : (s.countUnknown).pcLeftRange = s.pcLeftRange := rfl
@[simp] theorem State.countUnknown_cyc : (s.countUnknown).cyc = s.cyc := rfl
@[simp] theorem State.countUnknown_unkCount : (s.countUnknown).unkCount = s.unkCount + 1 := rfl
@[simp] theorem State.countUnknown_mem : (s.countUnknown).mem = s.mem := rfl
@[simp] theorem State.countUnknown_run : (s.countUnknown).run = s.run := rfl
@[simp] theorem State.countUnknown_cfg : (s.countUnknown).cfg = s.cfg := rfl

/-! ### `countFetch` -/

@[simp] theorem State.countFetch_regs : (s.countFetch).regs = s.regs := rfl
@[simp] theorem State.countFetch_shadow : (s.countFetch).shadow = s.shadow := rfl
@[simp] theorem State.countFetch_ix : (s.countFetch).ix = s.ix := rfl
@[simp] theorem State.countFetch_iy : (s.countFetch).iy = s.iy := rfl
@[simp] theorem State.countFetch_sp : (s.countFetch).sp = s.sp := rfl
@[simp] theorem State.countFetch_pc : (s.countFetch).pc = s.pc := rfl
@[simp] theorem State.countFetch_i : (s.countFetch).i = s.i := rfl
@[simp] theorem State.countFetch_r : (s.countFetch).r = BitVec.ofNat 8 ((s.r.toNat + 1) % 128) := rfl
@[simp] theorem State.countFetch_iff : (s.countFetch).iff = s.iff := rfl
@[simp] theorem State.countFetch_pcLeftRange : (s.countFetch).pcLeftRange = s.pcLeftRange := rfl
@[simp] theorem State.countFetch_cyc : (s.countFetch).cyc = s.cyc := rfl
@[simp] theorem State.countFetch_unkCount : (s.countFetch).unkCount = s.unkCount := rfl
@[simp] theorem State.countFetch_mem : (s.countFetch).mem = s.mem := rfl
@[simp] theorem State.countFetch_run : (s.countFetch).run = s.run := rfl
@[simp] theorem State.countFetch_cfg : (s.countFetch).cfg = s.cfg := rfl

/-! ### `beginRun` -/

@[simp] theorem State.beginRun_regs : (s.beginRun).regs = s.regs := rfl
@[simp] theorem State.beginRun_shadow : (s.beginRun).shadow = s.shadow := rfl
@[simp] theorem State.beginRun_ix : (s.beginRun).ix = s.ix := rfl
@[simp] theorem State.beginRun_iy : (s.beginRun).iy = s.iy := rfl
@[simp] theorem State.beginRun_sp : (s.beginRun).sp = s.sp := rfl
@[simp] theorem State.beginRun_pc : (s.beginRun).pc = s.pc := rfl
@[simp] theorem State.beginRun_i : (s.beginRun).i = s.i := rfl
@[simp] theorem State.beginRun_r : (s.beginRun).r = s.r := rfl
@[simp] theorem State.beginRun_iff : (s.beginRun).iff = s.iff := rfl
@[simp] theorem State.beginRun_pcLeftRange : (s.beginRun).pcLeftRange = s.pcLeftRange := rfl
@[simp] theorem State.beginRun_cyc : (s.beginRun).cyc = s.cfg.runEntryCycles := rfl
@[simp] theorem State.beginRun_unkCount : (s.beginRun).unkCount = s.unkCount := rfl
@[simp] theorem State.beginRun_mem : (s.beginRun).mem = s.mem := rfl
@[simp] theorem State.beginRun_run : (s.beginRun).run = .inProgress := rfl
@[simp] theorem State.beginRun_cfg : (s.beginRun).cfg = s.cfg := rfl

/-! ### `push` -/

@[simp] theorem State.push_regs (w : Word) : (s.push w).regs = s.regs := rfl
@[simp] theorem State.push_shadow (w : Word) : (s.push w).shadow = s.shadow := rfl
@[simp] theorem State.push_ix (w : Word) : (s.push w).ix = s.ix := rfl
@[simp] theorem State.push_iy (w : Word) : (s.push w).iy = s.iy := rfl
@[simp] theorem State.push_sp (w : Word) : (s.push w).sp = s.sp - 2 := rfl
@[simp] theorem State.push_pc (w : Word) : (s.push w).pc = s.pc := rfl
@[simp] theorem State.push_i (w : Word) : (s.push w).i = s.i := rfl
@[simp] theorem State.push_r (w : Word) : (s.push w).r = s.r := rfl
@[simp] theorem State.push_iff (w : Word) : (s.push w).iff = s.iff := rfl
@[simp] theorem State.push_pcLeftRange (w : Word) : (s.push w).pcLeftRange = s.pcLeftRange := rfl
@[simp] theorem State.push_cyc (w : Word) : (s.push w).cyc = s.cyc := rfl
@[simp] theorem State.push_unkCount (w : Word) : (s.push w).unkCount = s.unkCount := rfl
@[simp] theorem State.push_mem (w : Word) : (s.push w).mem = (s.mem.write (s.sp - 2).toNat (loByte w)).write (s.sp - 2 + 1).toNat (hiByte w) := rfl
@[simp] theorem State.push_run (w : Word) : (s.push w).run = s.run := rfl
@[simp] theorem State.push_cfg (w : Word) : (s.push w).cfg = s.cfg := rfl

/-! ### `pop` -/

@[simp] theorem State.pop_regs : (s.pop).regs = s.regs := rfl
@[simp] theorem State.pop_shadow : (s.pop).shadow = s.shadow := rfl
@[simp] theorem State.pop_ix : (s.pop).ix = s.ix := rfl
@[simp] theorem State.pop_iy : (s.pop).iy = s.iy := rfl
@[simp] theorem State.pop_sp : (s.pop).sp = s.sp + 2 := rfl
@[simp] theorem State.pop_pc : (s.pop).pc = s.pc := rfl
@[simp] theorem State.pop_i : (s.pop).i = s.i := rfl
@[simp] theorem State.pop_r : (s.pop).r = s.r := rfl
@[simp] theorem State.pop_iff : (s.pop).iff = s.iff := rfl
@[simp] theorem State.pop_pcLeftRange : (s.pop).pcLeftRange = s.pcLeftRange := rfl
@[simp] theorem State.pop_cyc : (s.pop).cyc = s.cyc := rfl
@[simp] theorem State.pop_unkCount : (s.pop).unkCount = s.unkCount := rfl
@[simp] theorem State.pop_mem : (s.pop).mem = s.mem := rfl
@[simp] theorem State.pop_run : (s.pop).run = s.run := rfl
@[simp] theorem State.pop_cfg : (s.pop).cfg = s.cfg := rfl

/-! ### `setAF` -/

@[simp] theorem State.setAF_regs (rf : Byte × Byte) : (s.setAF rf).regs = { s.regs.set .a rf.1 with f := rf.2 } := rfl
@[simp] theorem State.setAF_shadow (rf : Byte × Byte) : (s.setAF rf).shadow = s.shadow := rfl
@[simp] theorem State.setAF_ix (rf : Byte × Byte) : (s.setAF rf).ix = s.ix := rfl
@[simp] theorem State.setAF_iy (rf : Byte × Byte) : (s.setAF rf).iy = s.iy := rfl
@[simp] theorem State.setAF_sp (rf : Byte × Byte) : (s.setAF rf).sp = s.sp := rfl
@[simp] theorem State.setAF_pc (rf : Byte × Byte) : (s.setAF rf).pc = s.pc := rfl
@[simp] theorem State.setAF_i (rf : Byte × Byte) : (s.setAF rf).i = s.i := rfl
@[simp] theorem State.setAF_r (rf : Byte × Byte) : (s.setAF rf).r = s.r := rfl
@[simp] theorem State.setAF_iff (rf : Byte × Byte) : (s.setAF rf).iff = s.iff := rfl
@[simp] theorem State.setAF_pcLeftRange (rf : Byte × Byte) : (s.setAF rf).pcLeftRange = s.pcLeftRange := rfl
@[simp] theorem State.setAF_cyc (rf : Byte × Byte) : (s.setAF rf).cyc = s.cyc := rfl
@[simp] theorem State.setAF_unkCount (rf : Byte × Byte) : (s.setAF rf).unkCount = s.unkCount := rfl
@[simp] theorem State.setAF_mem (rf : Byte × Byte) : (s.setAF rf).mem = s.mem := rfl
@[simp] theorem State.setAF_run (rf : Byte × Byte) : (s.setAF rf).run = s.run := rfl
@[simp] theorem State.setAF_cfg (rf : Byte × Byte) : (s.setAF rf).cfg = s.cfg := rfl

/-! ### `setHLF` -/

@[simp] theorem State.setHLF_regs (rf : Word × Byte) : (s.setHLF rf).regs = { s.regs with h := hiByte rf.1, l := loByte rf.1, f := rf.2 } := rfl
@[simp] theorem State.setHLF_shadow (rf : Word × Byte) : (s.setHLF rf).shadow = s.shadow := rfl
@[simp] theorem State.setHLF_ix (rf : Word × Byte) : (s.setHLF rf).ix = s.ix := rfl
@[simp] theorem State.setHLF_iy (rf : Word × Byte) : (s.setHLF rf).iy = s.iy := rfl
@[simp] theorem State.setHLF_sp (rf : Word × Byte) : (s.setHLF rf).sp = s.sp := rfl
@[simp] theorem State.setHLF_pc (rf : Word × Byte) : (s.setHLF rf).pc = s.pc := rfl
@[simp] theorem State.setHLF_i (rf : Word × Byte) : (s.setHLF rf).i = s.i := rfl
@[simp] theorem State.setHLF_r (rf : Word × Byte) : (s.setHLF rf).r = s.r := rfl
@[simp] theorem State.setHLF_iff (rf : Word × Byte) : (s.setHLF rf).iff = s.iff := rfl
@[simp] theorem State.setHLF_pcLeftRange (rf : Word × Byte) : (s.setHLF rf).pcLeftRange = s.pcLeftRange := rfl
@[simp] theorem State.setHLF_cyc (rf : Word × Byte) : (s.setHLF rf).cyc = s.cyc := rfl
@[simp] theorem State.setHLF_unkCount (rf : Word × Byte) : (s.setHLF rf).unkCount = s.unkCount := rfl
@[simp] theorem State.setHLF_mem (rf : Word × Byte) : (s.setHLF rf).mem = s.mem := rfl
@[simp] theorem State.setHLF_run (rf : Word × Byte) : (s.setHLF rf).run = s.run := rfl
@[simp] theorem State.setHLF_cfg (rf : Word × Byte) : (s.setHLF rf).cfg = s.cfg := rfl

/-! ### Registers of a set -/

@[simp] theorem RegSet.get_set_same (g : RegSet) (q : Reg8) (v : Byte) : (g.set q v).get q = v := by cases q <;> rfl

theorem RegSet.get_set_other (g : RegSet) {q q' : Reg8} (v : Byte) (h : q' ≠ q) : (g.set q v).get q' = g.get q' := by
  cases q <;> cases q' <;> first | rfl | exact absurd rfl h

@[simp] theorem RegSet.set_f (g : RegSet) (q : Reg8) (v : Byte) : (g.set q v).f = g.f := by cases q <;> rfl

@[simp] theorem RegSet.get_with_f (g : RegSet) (q : Reg8) (v : Byte) : RegSet.get { g with f := v } q = g.get q := by
  cases q <;> rfl

@[simp] theorem RegSet.zero_f : RegSet.zero.f = 0 := rfl

@[simp] theorem State.setReg16_f (p : Reg16) (w : Word) : (s.setReg16 p w).regs.f = s.regs.f := by cases p <;> rfl

@[simp] theorem State.setReg16_hl_regs (w : Word) :
    (s.setReg16 .hl w).regs = { s.regs with h := hiByte w, l := loByte w } := rfl

/-! ### Entering a run -/

theorem State.enter_of_inProgress (h : s.run = .inProgress) : s.enter = s := if_pos h

theorem State.enter_of_not_inProgress (h : s.run ≠ .inProgress) : s.enter = s.beginRun := if_neg h

@[simp] theorem State.enter_run : s.enter.run = .inProgress := by
  unfold State.enter; split <;> simp_all

@[simp] theorem State.enter_cyc : s.enter.cyc = if s.run = .inProgress then s.cyc else s.cfg.runEntryCycles := by
  unfold State.enter; split <;> simp_all

@[simp] theorem State.enter_regs : s.enter.regs = s.regs := by unfold State.enter; split <;> rfl
@[simp] theorem State.enter_shadow : s.enter.shadow = s.shadow := by unfold State.enter; split <;> rfl
@[simp] theorem State.enter_ix : s.enter.ix = s.ix := by unfold State.enter; split <;> rfl
@[simp] theorem State.enter_iy : s.enter.iy = s.iy := by unfold State.enter; split <;> rfl
@[simp] theorem State.enter_sp : s.enter.sp = s.sp := by unfold State.enter; split <;> rfl
@[simp] theorem State.enter_pc : s.enter.pc = s.pc := by unfold State.enter; split <;> rfl
@[simp] theorem State.enter_i : s.enter.i = s.i := by unfold State.enter; split <;> rfl
@[simp] theorem State.enter_r : s.enter.r = s.r := by unfold State.enter; split <;> rfl
@[simp] theorem State.enter_iff : s.enter.iff = s.iff := by unfold State.enter; split <;> rfl
@[simp] theorem State.enter_pcLeftRange : s.enter.pcLeftRange = s.pcLeftRange := by unfold State.enter; split <;> rfl
@[simp] theorem State.enter_unkCount : s.enter.unkCount = s.unkCount := by unfold State.enter; split <;> rfl
@[simp] theorem State.enter_mem : s.enter.mem = s.mem := by unfold State.enter; split <;> rfl
@[simp] theorem State.enter_cfg : s.enter.cfg = s.cfg := by unfold State.enter; split <;> rfl

end Sys2Proof.Machine
end

