-- ==== Sys2Proof/Laws/Exec.lean ====
section
/-! SUPPORT. The 24 forms of the instruction set: what `exec` answers for each, and the case split of all instructions into
them, so that a proof about every instruction has 24 cases. -/

namespace Sys2Proof.Machine

theorem exec_nop (s : State) : exec .nop s = .next (s.retire 1 4) := rfl

theorem exec_halt (s : State) : exec .halt s = .next ((s.retire 1 4).endRun .halt) := rfl

theorem exec_scf (s : State) : exec .scf s = .next ((s.setF (scfFlags s.regs.f)).retire 1 4) := rfl

theorem exec_jpNn (nn : Word) (s : State) : exec (.jpNn nn) s = .next ((s.jump nn).charge 10) := rfl

theorem exec_jrE (e : Int) (s : State) : exec (.jrE e) s = .next ((s.jump (addDisplacement (s.pc + 2) e)).charge 12) := rfl

theorem exec_callNn (nn : Word) (s : State) : exec (.callNn nn) s = .next (((s.push (s.pc + 3)).jump nn).charge 17) := rfl

theorem exec_ret (s : State) : exec .ret s = .next ((s.pop.jump (s.memRead16 s.sp)).charge 10) := rfl

theorem exec_ldReg (q : Reg8) (n : Byte) (s : State) : exec (.ldReg q n) s = .next (loadReg q n s) := by cases q <;> rfl

theorem exec_ldPair (p : Reg16) (nn : Word) (s : State) : exec (.ldPair p nn) s = .next (loadPair p nn s) := by cases p <;> rfl

theorem exec_ldIndBcA (s : State) : exec .ldIndBcA s = .next (storeVia .bc .a s) := rfl

theorem exec_ldIndDeA (s : State) : exec .ldIndDeA s = .next (storeVia .de .a s) := rfl

theorem exec_stHl (q : Reg8) (s : State) : exec (.stHl q) s = .next (storeVia .hl q s) := by cases q <;> rfl

theorem exec_add (q : Reg8) (s : State) : exec (.add q) s = .next (addReg q s) := by cases q <;> rfl

theorem exec_sub (q : Reg8) (s : State) : exec (.sub q) s = .next (subReg q s) := by cases q <;> rfl

theorem exec_adc (p : Reg16) (s : State) : exec (.adc p) s = .next (adcPair p s) := by cases p <;> rfl

theorem exec_sbc (p : Reg16) (s : State) : exec (.sbc p) s = .next (sbcPair p s) := by cases p <;> rfl

theorem exec_rotReg (op : RotOp) (q : Reg8) (s : State) : exec (.rotReg op q) s = .next (rotateReg op q s) := by cases op <;> cases q <;> rfl

theorem exec_rotHl (op : RotOp) (s : State) : exec (.rotHl op) s = .next (rotateHl op s) := by cases op <;> rfl

theorem exec_bitReg (b : Fin 8) (q : Reg8) (s : State) : exec (.bitReg b q) s = .next (testReg b q s) := by
  cases q <;> fin_cases b <;> rfl

theorem exec_bitHl (b : Fin 8) (s : State) : exec (.bitHl b) s = .next (testMem b .hl 2 12 s) := by
  fin_cases b <;> rfl

theorem exec_ldIndex (x : IndexReg) (nn : Word) (s : State) : exec (.ldIndex x nn) s = .next (loadIndex x nn s) := by cases x <;> rfl

theorem exec_stIndex (x : IndexReg) (d : Int) (s : State) : exec (.stIndex x d) s = .next (storeIndexed x d s) := by cases x <;> rfl

theorem exec_subIndex (x : IndexReg) (d : Int) (s : State) : exec (.subIndex x d) s = .next (subIndexed x d s) := by cases x <;> rfl

theorem exec_bitIndex (x : IndexReg) (b : Fin 8) (d : Int) (s : State) : exec (.bitIndex x b d) s = .next (testMem b (.indexed x d) 4 20 s) := by
  cases x <;> fin_cases b <;> rfl

/-- The case split: what holds of every form holds of every instruction. -/
theorem byForm {motive : Instr → Prop}
    (hNop : motive Instr.nop)
    (hHalt : motive Instr.halt)
    (hScf : motive Instr.scf)
    (hJpNn : ∀ (nn : Word), motive (Instr.jpNn nn))
    (hJrE : ∀ (e : Int), motive (Instr.jrE e))
    (hCallNn : ∀ (nn : Word), motive (Instr.callNn nn))
    (hRet : motive Instr.ret)
    (hLdReg : ∀ (q : Reg8) (n : Byte), motive (Instr.ldReg q n))
    (hLdPair : ∀ (p : Reg16) (nn : Word), motive (Instr.ldPair p nn))
    (hLdIndBcA : motive Instr.ldIndBcA)
    (hLdIndDeA : motive Instr.ldIndDeA)
    (hStHl : ∀ (q : Reg8), motive (Instr.stHl q))
    (hAdd : ∀ (q : Reg8), motive (Instr.add q))
    (hSub : ∀ (q : Reg8), motive (Instr.sub q))
    (hAdc : ∀ (p : Reg16), motive (Instr.adc p))
    (hSbc : ∀ (p : Reg16), motive (Instr.sbc p))
    (hRotReg : ∀ (op : RotOp) (q : Reg8), motive (Instr.rotReg op q))
    (hRotHl : ∀ (op : RotOp), motive (Instr.rotHl op))
    (hBitReg : ∀ (b : Fin 8) (q : Reg8), motive (Instr.bitReg b q))
    (hBitHl : ∀ (b : Fin 8), motive (Instr.bitHl b))
    (hLdIndex : ∀ (x : IndexReg) (nn : Word), motive (Instr.ldIndex x nn))
    (hStIndex : ∀ (x : IndexReg) (d : Int), motive (Instr.stIndex x d))
    (hSubIndex : ∀ (x : IndexReg) (d : Int), motive (Instr.subIndex x d))
    (hBitIndex : ∀ (x : IndexReg) (b : Fin 8) (d : Int), motive (Instr.bitIndex x b d))
    (i : Instr) : motive i :=
  match i with
  | .nop => hNop | .ldBcNn nn => hLdPair .bc nn | .ldDeNn nn => hLdPair .de nn | .ldHlNn nn => hLdPair .hl nn
  | .ldSpNn nn => hLdPair .sp nn | .ldIndBcA => hLdIndBcA | .ldIndDeA => hLdIndDeA | .ldBN n => hLdReg .b n
  | .ldCN n => hLdReg .c n | .ldDN n => hLdReg .d n | .ldEN n => hLdReg .e n | .ldHN n => hLdReg .h n
  | .ldLN n => hLdReg .l n | .ldAN n => hLdReg .a n | .jrE e => hJrE e | .scf => hScf | .ldIndHlB => hStHl .b
  | .ldIndHlC => hStHl .c | .ldIndHlD => hStHl .d | .ldIndHlE => hStHl .e | .ldIndHlH => hStHl .h
  | .ldIndHlL => hStHl .l | .ldIndHlA => hStHl .a | .halt => hHalt | .addAB => hAdd .b | .addAC => hAdd .c
  | .addAD => hAdd .d | .addAE => hAdd .e | .addAH => hAdd .h | .addAL => hAdd .l | .addAA => hAdd .a
  | .subB => hSub .b | .subC => hSub .c | .subD => hSub .d | .subE => hSub .e | .subH => hSub .h
  | .subL => hSub .l | .subA => hSub .a | .jpNn nn => hJpNn nn | .ret => hRet | .callNn nn => hCallNn nn
  | .rlcB => hRotReg .rlc .b | .rlcC => hRotReg .rlc .c | .rlcD => hRotReg .rlc .d | .rlcE => hRotReg .rlc .e
  | .rlcH => hRotReg .rlc .h | .rlcL => hRotReg .rlc .l | .rlcIndHl => hRotHl .rlc | .rlcA => hRotReg .rlc .a
  | .rrcB => hRotReg .rrc .b | .rrcC => hRotReg .rrc .c | .rrcD => hRotReg .rrc .d | .rrcE => hRotReg .rrc .e
  | .rrcH => hRotReg .rrc .h | .rrcL => hRotReg .rrc .l | .rrcIndHl => hRotHl .rrc | .rrcA => hRotReg .rrc .a
  | .rlB => hRotReg .rl .b | .rlC => hRotReg .rl .c | .rlD => hRotReg .rl .d | .rlE => hRotReg .rl .e
  | .rlH => hRotReg .rl .h | .rlL => hRotReg .rl .l | .rlIndHl => hRotHl .rl | .rlA => hRotReg .rl .a
  | .rrB => hRotReg .rr .b | .rrC => hRotReg .rr .c | .rrD => hRotReg .rr .d | .rrE => hRotReg .rr .e
  | .rrH => hRotReg .rr .h | .rrL => hRotReg .rr .l | .rrIndHl => hRotHl .rr | .rrA => hRotReg .rr .a
  | .sraB => hRotReg .sra .b | .sraC => hRotReg .sra .c | .sraD => hRotReg .sra .d | .sraE => hRotReg .sra .e
  | .sraH => hRotReg .sra .h | .sraL => hRotReg .sra .l | .sraIndHl => hRotHl .sra | .sraA => hRotReg .sra .a
  | .bit0B => hBitReg 0 .b | .bit0C => hBitReg 0 .c | .bit0D => hBitReg 0 .d | .bit0E => hBitReg 0 .e
  | .bit0H => hBitReg 0 .h | .bit0L => hBitReg 0 .l | .bit0IndHl => hBitHl 0 | .bit0A => hBitReg 0 .a
  | .bit1B => hBitReg 1 .b | .bit1C => hBitReg 1 .c | .bit1D => hBitReg 1 .d | .bit1E => hBitReg 1 .e
  | .bit1H => hBitReg 1 .h | .bit1L => hBitReg 1 .l | .bit1IndHl => hBitHl 1 | .bit1A => hBitReg 1 .a
  | .bit2B => hBitReg 2 .b | .bit2C => hBitReg 2 .c | .bit2D => hBitReg 2 .d | .bit2E => hBitReg 2 .e
  | .bit2H => hBitReg 2 .h | .bit2L => hBitReg 2 .l | .bit2IndHl => hBitHl 2 | .bit2A => hBitReg 2 .a
  | .bit3B => hBitReg 3 .b | .bit3C => hBitReg 3 .c | .bit3D => hBitReg 3 .d | .bit3E => hBitReg 3 .e
  | .bit3H => hBitReg 3 .h | .bit3L => hBitReg 3 .l | .bit3IndHl => hBitHl 3 | .bit3A => hBitReg 3 .a
  | .bit4B => hBitReg 4 .b | .bit4C => hBitReg 4 .c | .bit4D => hBitReg 4 .d | .bit4E => hBitReg 4 .e
  | .bit4H => hBitReg 4 .h | .bit4L => hBitReg 4 .l | .bit4IndHl => hBitHl 4 | .bit4A => hBitReg 4 .a
  | .bit5B => hBitReg 5 .b | .bit5C => hBitReg 5 .c | .bit5D => hBitReg 5 .d | .bit5E => hBitReg 5 .e
  | .bit5H => hBitReg 5 .h | .bit5L => hBitReg 5 .l | .bit5IndHl => hBitHl 5 | .bit5A => hBitReg 5 .a
  | .bit6B => hBitReg 6 .b | .bit6C => hBitReg 6 .c | .bit6D => hBitReg 6 .d | .bit6E => hBitReg 6 .e
  | .bit6H => hBitReg 6 .h | .bit6L => hBitReg 6 .l | .bit6IndHl => hBitHl 6 | .bit6A => hBitReg 6 .a
  | .bit7B => hBitReg 7 .b | .bit7C => hBitReg 7 .c | .bit7D => hBitReg 7 .d | .bit7E => hBitReg 7 .e
  | .bit7H => hBitReg 7 .h | .bit7L => hBitReg 7 .l | .bit7IndHl => hBitHl 7 | .bit7A => hBitReg 7 .a
  | .sbcHlBc => hSbc .bc | .sbcHlDe => hSbc .de | .sbcHlHl => hSbc .hl | .sbcHlSp => hSbc .sp
  | .adcHlBc => hAdc .bc | .adcHlDe => hAdc .de | .adcHlHl => hAdc .hl | .adcHlSp => hAdc .sp
  | .ldIxNn nn => hLdIndex .ix nn | .ldIndIxA d => hStIndex .ix d | .subIndIx d => hSubIndex .ix d
  | .bit0IndIx d => hBitIndex .ix 0 d | .bit1IndIx d => hBitIndex .ix 1 d | .bit2IndIx d => hBitIndex .ix 2 d
  | .bit3IndIx d => hBitIndex .ix 3 d | .bit4IndIx d => hBitIndex .ix 4 d | .bit5IndIx d => hBitIndex .ix 5 d
  | .bit6IndIx d => hBitIndex .ix 6 d | .bit7IndIx d => hBitIndex .ix 7 d | .ldIyNn nn => hLdIndex .iy nn
  | .ldIndIyA d => hStIndex .iy d | .subIndIy d => hSubIndex .iy d | .bit0IndIy d => hBitIndex .iy 0 d
  | .bit1IndIy d => hBitIndex .iy 1 d | .bit2IndIy d => hBitIndex .iy 2 d | .bit3IndIy d => hBitIndex .iy 3 d
  | .bit4IndIy d => hBitIndex .iy 4 d | .bit5IndIy d => hBitIndex .iy 5 d | .bit6IndIy d => hBitIndex .iy 6 d
  | .bit7IndIy d => hBitIndex .iy 7 d

end Sys2Proof.Machine
end

