-- ==== Sys2Proof/Laws/Ops.lean ====
section
/-! SUPPORT. What each shared operation does, said once: the memory interface, the two ways `PC` moves, the flag helpers. -/

namespace Sys2Proof.Machine

/-! ### The memory interface -/

theorem State.memRead_memWrite_same {s : State} (a : Word) (v : Byte) (h : s.mem.wf = true) :
    (s.memWrite a v).memRead a = v :=
  Memory.read_write_same a.toNat v h

theorem State.memRead_memWrite_other (s : State) {a b : Word} (v : Byte) (h : b ≠ a) :
    (s.memWrite a v).memRead b = s.memRead b :=
  Memory.read_write_other s.mem v fun e => h (BitVec.eq_of_toNat_eq e)

theorem State.memWrite_wf {s : State} (a : Word) (v : Byte) (h : s.mem.wf = true) :
    (s.memWrite a v).mem.wf = true :=
  Memory.write_wf v h a.isLt

theorem State.memRead_memWrite {s : State} (a b : Word) (v : Byte) (h : s.mem.wf = true) :
    (s.memWrite a v).memRead b = if b = a then v else s.memRead b := by
  split
  · next e => rw [e]; exact State.memRead_memWrite_same a v h
  · next e => exact State.memRead_memWrite_other s v e

/-- A read sees only memory. -/
theorem State.memRead_congr {s t : State} (h : t.mem = s.mem) (a : Word) : t.memRead a = s.memRead a := by
  rw [State.memRead, State.memRead, h]

theorem word_add_one_ne (a : Word) : a + 1 ≠ a := by
  intro h
  have := congrArg BitVec.toNat h
  rw [BitVec.toNat_add, show (1 : Word).toNat = 1 from rfl] at this
  have := a.isLt
  omega

/-- A two-byte write, cell by cell (20 R33). -/
theorem State.memRead_memWrite16 {s : State} (a b w : Word) (h : s.mem.wf = true) :
    (s.memWrite16 a w).memRead b =
      if b = a then loByte w else if b = a + 1 then hiByte w else s.memRead b := by
  unfold State.memWrite16
  rw [State.memRead_memWrite _ _ _ (State.memWrite_wf a (loByte w) h), State.memRead_memWrite _ _ _ h]
  by_cases h1 : b = a
  · subst h1; simp
  · by_cases h2 : b = a + 1 <;> simp [h1, h2]

/-- The two cells a push writes, and every other cell (45 R108). -/
theorem State.memRead_push {s : State} (w a : Word) (h : s.mem.wf = true) :
    (s.push w).memRead a =
      if a = s.sp - 2 then loByte w else if a = s.sp - 1 then hiByte w else s.memRead a := by
  refine (State.memRead_congr (s := s.memWrite16 (s.sp - 2) w) rfl a).trans ?_
  rw [State.memRead_memWrite16 _ _ _ h, show s.sp - 2 + 1 = s.sp - 1 by bv_omega]

/-! ### Bytes and words -/

@[simp] theorem hiByte_wordOf (hi lo : Byte) : hiByte (wordOf hi lo) = hi := by
  apply BitVec.eq_of_toNat_eq
  simp only [hiByte, wordOf, BitVec.extractLsb'_toNat, BitVec.toNat_append, Nat.shiftLeft_eq, Nat.shiftRight_eq_div_pow]
  rw [← Nat.shiftLeft_eq, ← Nat.shiftLeft_add_eq_or_of_lt lo.isLt, Nat.shiftLeft_eq]
  omega

@[simp] theorem loByte_wordOf (hi lo : Byte) : loByte (wordOf hi lo) = lo := by
  apply BitVec.eq_of_toNat_eq
  simp only [loByte, wordOf, BitVec.extractLsb'_toNat, BitVec.toNat_append, Nat.shiftRight_zero]
  rw [← Nat.shiftLeft_add_eq_or_of_lt lo.isLt, Nat.shiftLeft_eq]
  omega

@[simp] theorem wordOf_hiByte_loByte (w : Word) : wordOf (hiByte w) (loByte w) = w := by
  apply BitVec.eq_of_toNat_eq
  have h : loByte w = BitVec.ofNat 8 w.toNat := by
    apply BitVec.eq_of_toNat_eq
    simp [loByte, BitVec.extractLsb'_toNat]
  simp only [wordOf, BitVec.toNat_append]
  rw [← Nat.shiftLeft_add_eq_or_of_lt (loByte w).isLt, Nat.shiftLeft_eq, h]
  simp only [hiByte, BitVec.extractLsb'_toNat, Nat.shiftRight_eq_div_pow, BitVec.toNat_ofNat]
  omega

/-- Reading back what a two-byte write stored. -/
theorem State.memRead16_memWrite16 {s : State} (a w : Word) (h : s.mem.wf = true) :
    (s.memWrite16 a w).memRead16 a = w := by
  rw [State.memRead16, State.memRead_memWrite16 _ _ _ h, State.memRead_memWrite16 _ _ _ h]
  simp

/-- The byte of a displacement stands for it (30 R55). -/
theorem sext8_displacementByte {x : Int} (h : fitsDisplacement x = true) : sext8 (displacementByte x) = x := by
  simp only [fitsDisplacement, Bool.and_eq_true, decide_eq_true_eq] at h
  simp only [sext8, displacementByte, BitVec.toInt_ofInt]
  exact Int.bmod_eq_of_le (by omega) (by omega)

theorem displacementByte_sext8 (b : Byte) : displacementByte (sext8 b) = b := by
  simp [sext8, displacementByte]

theorem fitsDisplacement_sext8 (b : Byte) : fitsDisplacement (sext8 b) = true := by
  have lower := BitVec.le_toInt b
  have upper := BitVec.toInt_lt (x := b)
  simp only [fitsDisplacement, sext8, Bool.and_eq_true]
  exact ⟨decide_eq_true (by simpa using lower), decide_eq_true (by omega)⟩

/-! ### The program counter -/

theorem State.leavesRange_of_wrap {s : State} (len : Nat) (h : s.cfg.pcOverflow = .wrap) :
    s.leavesRange len = s.pcLeftRange := by
  simp [State.leavesRange, h]

theorem State.guardFires_of_wrap {s : State} (h : s.cfg.pcOverflow = .wrap) : s.guardFires = false := by
  simp [State.guardFires, h]

/-! ### Flags -/

theorem flagIf_getLsbD (p : Bool) (mask : Byte) (k : Nat) : (flagIf p mask).getLsbD k = (p && mask.getLsbD k) := by
  cases p <;> simp [flagIf]

/-- Every flags byte is one of 256, so a fact about all of them is a finite check. -/
theorem forall_byte {P : Byte → Prop} (h : ∀ k : Fin 256, P (BitVec.ofFin k)) (f : Byte) : P f := h f.toFin

theorem unnamedClear_or {f g : Byte} (hf : unnamedClear f = true) (hg : unnamedClear g = true) :
    unnamedClear (f ||| g) = true := by
  simp only [unnamedClear, Bool.and_eq_true, Bool.not_eq_true', BitVec.getLsbD_or, Bool.or_eq_false_iff] at *
  exact ⟨⟨⟨hf.1.1, hg.1.1⟩, hf.1.2, hg.1.2⟩, hf.2, hg.2⟩

theorem unnamedClear_flagIf {mask : Byte} (p : Bool) (h : unnamedClear mask = true) :
    unnamedClear (flagIf p mask) = true := by
  cases p
  · simp [flagIf, unnamedClear]
  · exact h

theorem unnamedClear_sz8 (v : Byte) : unnamedClear (sz8 v) = true :=
  unnamedClear_or (unnamedClear_flagIf _ (by decide)) (unnamedClear_flagIf _ (by decide))

theorem unnamedClear_sz16 (w : Word) : unnamedClear (sz16 w) = true :=
  unnamedClear_or (unnamedClear_flagIf _ (by decide)) (unnamedClear_flagIf _ (by decide))

theorem unnamedClear_add8 (a b : Byte) : unnamedClear (add8 a b).2 = true :=
  unnamedClear_or (unnamedClear_or (unnamedClear_sz8 _) (unnamedClear_flagIf _ (by decide)))
    (unnamedClear_flagIf _ (by decide))

theorem unnamedClear_sub8 (a b : Byte) : unnamedClear (sub8 a b).2 = true :=
  unnamedClear_or (unnamedClear_or (unnamedClear_or (unnamedClear_sz8 _) (unnamedClear_flagIf _ (by decide)))
    (by decide)) (unnamedClear_flagIf _ (by decide))

theorem unnamedClear_adc16 (a b : Word) (c : Bool) : unnamedClear (adc16 a b c).2 = true :=
  unnamedClear_or (unnamedClear_or (unnamedClear_sz16 _) (unnamedClear_flagIf _ (by decide)))
    (unnamedClear_flagIf _ (by decide))

theorem unnamedClear_sbc16 (a b : Word) (c : Bool) : unnamedClear (sbc16 a b c).2 = true :=
  unnamedClear_or (unnamedClear_or (unnamedClear_or (unnamedClear_sz16 _) (unnamedClear_flagIf _ (by decide)))
    (by decide)) (unnamedClear_flagIf _ (by decide))

theorem unnamedClear_rotFlags (ops : List RotOp) (op : RotOp) (res : Byte) (co c : Bool) :
    unnamedClear (rotFlags ops op res co c) = true :=
  unnamedClear_or (unnamedClear_sz8 _) (unnamedClear_flagIf _ (by decide))

/-- Keeping some of the bits of a byte whose unnamed bits are 0. -/
theorem unnamedClear_and {f mask : Byte} (hf : unnamedClear f = true) : unnamedClear (f &&& mask) = true := by
  simp only [unnamedClear, Bool.and_eq_true, Bool.not_eq_true'] at hf ⊢
  simp only [BitVec.getLsbD_and, hf, Bool.false_and, and_self]

theorem unnamedClear_bitf {f : Byte} (v : Byte) (b : Fin 8) (hf : unnamedClear f = true) :
    unnamedClear (bitf f v b) = true :=
  unnamedClear_or (unnamedClear_or (unnamedClear_or (unnamedClear_and hf) (by decide))
    (unnamedClear_flagIf _ (by decide))) (unnamedClear_flagIf _ (by decide))

theorem unnamedClear_scfFlags {f : Byte} (hf : unnamedClear f = true) : unnamedClear (scfFlags f) = true :=
  unnamedClear_or (unnamedClear_and hf) (by decide)

/-- The arithmetic-like helper, bit by bit (10 R19). -/
theorem sz8_getLsbD (v : Byte) (k : Nat) :
    (sz8 v).getLsbD k = ((decide (k = 7) && v.getLsbD 7) || (decide (k = 6) && decide (v = 0))) := by
  unfold sz8
  rw [BitVec.getLsbD_or, flagIf_getLsbD, flagIf_getLsbD]
  by_cases hk : k < 8
  · interval_cases k <;> simp [maskS, maskZ]
  · have h7 : k ≠ 7 := by omega
    have h6 : k ≠ 6 := by omega
    have hs : maskS.getLsbD k = false := BitVec.getLsbD_of_ge _ _ (by omega)
    have hz : maskZ.getLsbD k = false := BitVec.getLsbD_of_ge _ _ (by omega)
    simp [h7, h6, hs, hz]

end Sys2Proof.Machine
end

