-- ==== Sys2Proof/Laws/Flags.lean ====
section
/-! SUPPORT. What each flag computation gives, said once: the result as bit-vector arithmetic and the flags byte as the five
conditions, so that no later proof unfolds one. -/

namespace Sys2Proof.Machine

/-! ### Bytes of a word -/

theorem loByte_eq (w : Word) : loByte w = BitVec.ofNat 8 w.toNat := by
  apply BitVec.eq_of_toNat_eq
  simp [loByte, BitVec.extractLsb'_toNat]

theorem hiByte_eq (w : Word) : hiByte w = BitVec.ofNat 8 (w.toNat / 256) := by
  apply BitVec.eq_of_toNat_eq
  simp [hiByte, BitVec.extractLsb'_toNat, Nat.shiftRight_eq_div_pow]

theorem wordOf_toNat (hi lo : Byte) : (wordOf hi lo).toNat = 256 * hi.toNat + lo.toNat := by
  rw [wordOf, BitVec.toNat_append, ← Nat.shiftLeft_add_eq_or_of_lt lo.isLt, Nat.shiftLeft_eq]
  omega

/-! ### Flags bytes -/

/-- A flags byte built by the 8-bit helper and the further flags is the byte of the five conditions. -/
theorem sz8_flags (r : Byte) (h n c : Bool) :
    sz8 r ||| flagIf h maskH ||| flagIf n maskN ||| flagIf c maskC =
      flagsByte (r.getLsbD 7) (decide (r = 0)) h n c := by
  unfold sz8 flagsByte
  generalize r.getLsbD 7 = a
  generalize decide (r = 0) = b
  revert a b h n c
  decide

/-- The same with the 16-bit helper. -/
theorem sz16_flags (r : Word) (h n c : Bool) :
    sz16 r ||| flagIf h maskH ||| flagIf n maskN ||| flagIf c maskC =
      flagsByte (r.getLsbD 15) (decide (r = 0)) h n c := by
  unfold sz16 flagsByte
  generalize r.getLsbD 15 = a
  generalize decide (r = 0) = b
  revert a b h n c
  decide

/-- The five conditions read back from their byte. -/
theorem flagsByte_getLsbD (s z h n c : Bool) :
    (flagsByte s z h n c).getLsbD 7 = s ∧ (flagsByte s z h n c).getLsbD 6 = z ∧ (flagsByte s z h n c).getLsbD 4 = h ∧
      (flagsByte s z h n c).getLsbD 1 = n ∧ (flagsByte s z h n c).getLsbD 0 = c := by
  revert s z h n c
  decide

theorem half8_eq (a b r : Byte) : half8 a b r = (a ^^^ b ^^^ r).getLsbD 4 := by
  unfold half8
  generalize a ^^^ b ^^^ r = x
  revert x
  refine forall_byte ?_
  intro k
  fin_cases k <;> rfl

theorem half16_eq (a b r : Word) : half16 a b r = (a ^^^ b ^^^ r).getLsbD 12 := by
  unfold half16
  generalize a ^^^ b ^^^ r = x
  have e : x &&& 0x1000 = if x.getLsbD 12 then 0x1000 else 0 := by
    apply BitVec.eq_of_getLsbD_eq
    intro i hi
    rw [BitVec.getLsbD_and]
    interval_cases i <;> cases x.getLsbD 12 <;> simp
  rw [e]
  cases x.getLsbD 12 <;> rfl

/-! ### The ALU functions -/

/-- `ADD8` (41 R73). -/
theorem add8_eq (a b : Byte) :
    add8 a b = (a + b, flagsByte ((a + b).getLsbD 7) (decide (a + b = 0)) ((a ^^^ b ^^^ (a + b)).getLsbD 4) false
      (decide (255 < a.toNat + b.toNat))) := by
  have e : BitVec.ofNat 8 (a.toNat + b.toNat) = a + b := by
    apply BitVec.eq_of_toNat_eq
    simp
  unfold add8
  simp only [e, half8_eq]
  refine Prod.ext rfl ?_
  rw [← sz8_flags]
  simp [flagIf]

/-- `SUB8` (41 R73). -/
theorem sub8_eq (a b : Byte) :
    sub8 a b = (a - b, flagsByte ((a - b).getLsbD 7) (decide (a - b = 0)) ((a ^^^ b ^^^ (a - b)).getLsbD 4) true
      (decide (a.toNat < b.toNat))) := by
  have e : BitVec.ofNat 8 (a.toNat + 256 - b.toNat) = a - b := by
    apply BitVec.eq_of_toNat_eq
    simp
    congr 1
    omega
  unfold sub8
  simp only [e, half8_eq]
  refine Prod.ext rfl ?_
  rw [← sz8_flags]
  simp [flagIf]

/-- `ADC16` (42 R80). -/
theorem adc16_eq {a b r : Word} {c : Bool} (hr : r = BitVec.ofNat 16 (a.toNat + b.toNat + c.toNat)) :
    adc16 a b c = (r, flagsByte (r.getLsbD 15) (decide (r = 0)) ((a ^^^ b ^^^ r).getLsbD 12) false
      (decide (65535 < a.toNat + b.toNat + c.toNat))) := by
  unfold adc16
  simp only [← hr, half16_eq]
  refine Prod.ext rfl ?_
  rw [← sz16_flags]
  simp [flagIf]

/-- `SBC16` (42 R80). -/
theorem sbc16_eq {a b r : Word} {c : Bool} (hr : r = a - b - (if c then 1 else 0)) :
    sbc16 a b c = (r, flagsByte (r.getLsbD 15) (decide (r = 0)) ((a ^^^ b ^^^ r).getLsbD 12) true
      (decide (a.toNat < b.toNat + c.toNat))) := by
  have e : BitVec.ofInt 16 ((a.toNat : Int) - b.toNat - c.toNat) = r := by
    rw [hr]
    apply BitVec.eq_of_toNat_eq
    have := a.isLt
    have := b.isLt
    cases c <;> simp [BitVec.toNat_sub, BitVec.toNat_ofInt] <;> omega
  have borrow : decide ((a.toNat : Int) - b.toNat - c.toNat < 0) = decide (a.toNat < b.toNat + c.toNat) := by
    congr 1
    simp only [eq_iff_iff]
    omega
  unfold sbc16
  simp only [e, borrow, half16_eq]
  refine Prod.ext rfl ?_
  rw [← sz16_flags]
  simp [flagIf]

/-! ### Rotates and shift (43 R86) -/

theorem rotate_getLsbD (op : RotOp) (v : Byte) (c : Bool) {k : Nat} (hk : k < 8) :
    (rotate op v c).1.getLsbD k = rotatedBit op v c k := by
  cases op <;> unfold rotate rotatedBit bitValue <;>
    simp only [BitVec.getLsbD_or, BitVec.getLsbD_shiftLeft, BitVec.getLsbD_ushiftRight, BitVec.getLsbD_and]
  all_goals interval_cases k
  all_goals cases c <;> cases v.getLsbD 7 <;> cases v.getLsbD 0 <;> simp

theorem rotate_shiftedOut (op : RotOp) (v : Byte) (c : Bool) : (rotate op v c).2 = shiftedOut op v := by
  cases op <;> rfl

theorem rotFlags_eq (untouched : List RotOp) (op : RotOp) (r : Byte) (co c : Bool) :
    rotFlags untouched op r co c =
      flagsByte (r.getLsbD 7) (decide (r = 0)) false false (if op ∈ untouched then c else co) := by
  rw [← sz8_flags]
  simp [rotFlags, flagIf]

/-! ### Bit tests and `SCF`, bit by bit -/

/-- `BITF` (10 R20). -/
theorem bitf_getLsbD (f v : Byte) (b : Fin 8) (k : Nat) :
    (bitf f v b).getLsbD k =
      if k = 7 then (decide (b = 7) && v.getLsbD 7) else if k = 6 then !v.getLsbD b else if k = 4 then true
      else f.getLsbD k := by
  unfold bitf
  simp only [BitVec.getLsbD_or, BitVec.getLsbD_and, flagIf_getLsbD]
  by_cases hk : k < 8
  · interval_cases k <;> simp [maskS, maskZ, maskH]
  · have h7 : k ≠ 7 := by omega
    have h6 : k ≠ 6 := by omega
    have h4 : k ≠ 4 := by omega
    have beyond : ∀ x : Byte, x.getLsbD k = false := fun x => BitVec.getLsbD_of_ge x k (by omega)
    simp [h7, h6, h4, beyond]

/-- `SCF` (46 R117). -/
theorem scfFlags_getLsbD (f : Byte) (k : Nat) :
    (scfFlags f).getLsbD k =
      if k = 4 then false else if k = 1 then false else if k = 0 then true else f.getLsbD k := by
  unfold scfFlags
  simp only [BitVec.getLsbD_or, BitVec.getLsbD_and]
  by_cases hk : k < 8
  · interval_cases k <;> simp [maskC, maskN, maskH]
  · have h4 : k ≠ 4 := by omega
    have h1 : k ≠ 1 := by omega
    have h0 : k ≠ 0 := by omega
    have beyond : ∀ x : Byte, x.getLsbD k = false := fun x => BitVec.getLsbD_of_ge x k (by omega)
    simp [h4, h1, h0, beyond]

end Sys2Proof.Machine
end

