-- ==== Sys2Proof/Laws/Step.lean ====
section
/-! SUPPORT. The case split of a step: the boundary guard, an instruction, or an unknown opcode. Every proof about `step`
goes through it. -/

namespace Sys2Proof.Machine

@[simp] theorem State.enter_guardFires (s : State) : s.enter.guardFires = s.guardFires := by
  unfold State.enter; split <;> rfl

@[simp] theorem State.enter_memRead (s : State) (a : Word) : s.enter.memRead a = s.memRead a := by
  unfold State.enter; split <;> rfl

@[simp] theorem State.enter_fetchDecode (s : State) : s.enter.fetchDecode = s.fetchDecode := by
  simp [State.fetchDecode]

/-- A fetch sees only memory: to know every cell is to know every fetch (20 R42). -/
theorem State.fetchesFrom_of_memRead {s : State} {cell : Word → Byte} (h : ∀ a, s.memRead a = cell a) :
    s.fetchesFrom cell := by
  intro pc
  rw [← h, ← h, ← h, ← h]
  rfl

/-- Everything a step can do. -/
theorem step_cases (s : State) :
    (s.guardFires = true ∧ step s = .next (s.enter.endRun .addressOutOfRange)) ∨
    (s.guardFires = false ∧ ∃ i, s.fetchDecode = .instr i ∧ step s = exec i s.fetched) ∨
    (s.guardFires = false ∧ ∃ lv, s.fetchDecode = .unknown lv ∧ step s = raiseUnknownOpcode lv s.fetched) := by
  unfold step iterate State.fetched
  rw [State.enter_guardFires, State.enter_fetchDecode]
  cases hg : s.guardFires with
  | true => exact .inl ⟨rfl, rfl⟩
  | false =>
    cases hd : s.fetchDecode with
    | instr i => exact .inr (.inl ⟨rfl, i, rfl, rfl⟩)
    | unknown lv => exact .inr (.inr ⟨rfl, lv, rfl, rfl⟩)

/-- An unknown opcode under the default policy (46 R121). -/
theorem raiseUnknownOpcode_nop {s : State} (lv : Level) (h : s.cfg.unlisted = .unknownNop) :
    raiseUnknownOpcode lv s = .next (s.countUnknown.retire (unknownLength lv) 4) := by
  simp only [raiseUnknownOpcode, h]

/-- An unknown opcode under the cautious policy (93 U1). -/
theorem raiseUnknownOpcode_refuse {s : State} (lv : Level) (h : s.cfg.unlisted = .refuse) :
    raiseUnknownOpcode lv s = .refused (.unlistedEncoding lv) := by
  simp only [raiseUnknownOpcode, h]

theorem fetched_r_lt (s : State) : s.fetched.r.toNat < 128 := by
  simp only [State.fetched, State.countFetch_r, BitVec.toNat_ofNat]
  omega

end Sys2Proof.Machine
end

