-- ==== Sys2Proof/Tests/Slice0.lean ====
section
/-! SUPPORT. Tests of the model against the spec: encodings written out from 30 R56 to R60, the flag tables of the
instruction files, one-step vectors of 95_test_vectors.md (whose ids the comments give), and, for every statement with
hypotheses, a state that meets them. -/

namespace Sys2Proof.Tests
open Machine

/-- The state in which the given bytes stand at `pc` and `PC` points at them. -/
def start (pc : Word) (bytes : List Byte) (s : State) : State := State.storeBytes { s with pc := pc } pc bytes

/-- The state after one step; the state itself where the step does not answer one. -/
def after (s : State) : State :=
  match step s with
  | .next t => t
  | .fault _ => s
  | .refused _ => s

/-- What every instruction of a fresh machine does: `PC` and `cyc` move, `R` goes up by 1 modulo 128, a run is on. -/
def done (s : State) (pc : Word) (cyc : Nat) : State :=
  { s with pc := pc, cyc := cyc, run := .inProgress, r := (s.r + 1) &&& 0x7F }

/-- Result and flags of a rotate with `ROT_CARRY_UNTOUCHED` empty. -/
def rotated (op : RotOp) (v : Byte) (c : Bool) : Byte × Byte :=
  ((rotate op v c).1, rotFlags [] op (rotate op v c).1 (rotate op v c).2 c)

/-! ### Table words -/

/-- A table word of so many bits and the instruction it encodes. -/
def word (nbits w : Nat) (i : Instr) : Nat × Nat × Instr := (nbits, w, i)

/-- Words of the unprefixed rows, operands filled in (30 R56 to R60). -/
def wordsUnprefixedA : List (Nat × Nat × Instr) := [
  word 8 0x00 .nop, word 24 0x010212 (.ldBcNn 0x1202), word 24 0x110312 (.ldDeNn 0x1203),
  word 24 0x210412 (.ldHlNn 0x1204), word 24 0x310512 (.ldSpNn 0x1205), word 8 0x02 .ldIndBcA,
  word 8 0x12 .ldIndDeA, word 16 0x06A7 (.ldBN 0xA7), word 16 0x0EA8 (.ldCN 0xA8),
  word 16 0x16A9 (.ldDN 0xA9), word 16 0x1EAA (.ldEN 0xAA), word 16 0x26AB (.ldHN 0xAB),
  word 16 0x2EAC (.ldLN 0xAC), word 16 0x3EAD (.ldAN 0xAD), word 16 0x18EF (.jrE (-17)), word 8 0x37 .scf,
  word 8 0x70 .ldIndHlB, word 8 0x71 .ldIndHlC, word 8 0x72 .ldIndHlD, word 8 0x73 .ldIndHlE,
  word 8 0x74 .ldIndHlH, word 8 0x75 .ldIndHlL, word 8 0x77 .ldIndHlA, word 8 0x76 .halt, word 8 0x80 .addAB,
  word 8 0x81 .addAC, word 8 0x82 .addAD, word 8 0x83 .addAE, word 8 0x84 .addAH, word 8 0x85 .addAL,
  word 8 0x87 .addAA, word 8 0x90 .subB]

/-- Words of the unprefixed rows, operands filled in (30 R56 to R60). -/
def wordsUnprefixedB : List (Nat × Nat × Instr) := [
  word 8 0x91 .subC, word 8 0x92 .subD, word 8 0x93 .subE, word 8 0x94 .subH, word 8 0x95 .subL,
  word 8 0x97 .subA, word 24 0xC32712 (.jpNn 0x1227), word 8 0xC9 .ret, word 24 0xCD2912 (.callNn 0x1229)]

theorem test_decode_wordsUnprefixedA : ∀ row ∈ wordsUnprefixedA, decodeTableWord row.1 row.2.1 = some row.2.2 := by decide
theorem test_encode_wordsUnprefixedA : ∀ row ∈ wordsUnprefixedA, encode row.2.2 = (tableBytes row.1 row.2.1).take (row.1 / 8) := by decide

theorem test_decode_wordsUnprefixedB : ∀ row ∈ wordsUnprefixedB, decodeTableWord row.1 row.2.1 = some row.2.2 := by decide
theorem test_encode_wordsUnprefixedB : ∀ row ∈ wordsUnprefixedB, encode row.2.2 = (tableBytes row.1 row.2.1).take (row.1 / 8) := by decide

/-- Words of the cbRotate rows, operands filled in (30 R56 to R60). -/
def wordsCbRotateA : List (Nat × Nat × Instr) := [
  word 16 0xCB00 .rlcB, word 16 0xCB01 .rlcC, word 16 0xCB02 .rlcD, word 16 0xCB03 .rlcE,
  word 16 0xCB04 .rlcH, word 16 0xCB05 .rlcL, word 16 0xCB06 .rlcIndHl, word 16 0xCB07 .rlcA,
  word 16 0xCB08 .rrcB, word 16 0xCB09 .rrcC, word 16 0xCB0A .rrcD, word 16 0xCB0B .rrcE,
  word 16 0xCB0C .rrcH, word 16 0xCB0D .rrcL, word 16 0xCB0E .rrcIndHl, word 16 0xCB0F .rrcA,
  word 16 0xCB10 .rlB, word 16 0xCB11 .rlC, word 16 0xCB12 .rlD, word 16 0xCB13 .rlE, word 16 0xCB14 .rlH,
  word 16 0xCB15 .rlL, word 16 0xCB16 .rlIndHl, word 16 0xCB17 .rlA, word 16 0xCB18 .rrB,
  word 16 0xCB19 .rrC, word 16 0xCB1A .rrD, word 16 0xCB1B .rrE, word 16 0xCB1C .rrH, word 16 0xCB1D .rrL,
  word 16 0xCB1E .rrIndHl, word 16 0xCB1F .rrA]

/-- Words of the cbRotate rows, operands filled in (30 R56 to R60). -/
def wordsCbRotateB : List (Nat × Nat × Instr) := [
  word 16 0xCB28 .sraB, word 16 0xCB29 .sraC, word 16 0xCB2A .sraD, word 16 0xCB2B .sraE,
  word 16 0xCB2C .sraH, word 16 0xCB2D .sraL, word 16 0xCB2E .sraIndHl, word 16 0xCB2F .sraA]

theorem test_decode_wordsCbRotateA : ∀ row ∈ wordsCbRotateA, decodeTableWord row.1 row.2.1 = some row.2.2 := by decide
theorem test_encode_wordsCbRotateA : ∀ row ∈ wordsCbRotateA, encode row.2.2 = (tableBytes row.1 row.2.1).take (row.1 / 8) := by decide

theorem test_decode_wordsCbRotateB : ∀ row ∈ wordsCbRotateB, decodeTableWord row.1 row.2.1 = some row.2.2 := by decide
theorem test_encode_wordsCbRotateB : ∀ row ∈ wordsCbRotateB, encode row.2.2 = (tableBytes row.1 row.2.1).take (row.1 / 8) := by decide

/-- Words of the cbBit rows, operands filled in (30 R56 to R60). -/
def wordsCbBitA : List (Nat × Nat × Instr) := [
  word 16 0xCB40 .bit0B, word 16 0xCB41 .bit0C, word 16 0xCB42 .bit0D, word 16 0xCB43 .bit0E,
  word 16 0xCB44 .bit0H, word 16 0xCB45 .bit0L, word 16 0xCB46 .bit0IndHl, word 16 0xCB47 .bit0A,
  word 16 0xCB48 .bit1B, word 16 0xCB49 .bit1C, word 16 0xCB4A .bit1D, word 16 0xCB4B .bit1E,
  word 16 0xCB4C .bit1H, word 16 0xCB4D .bit1L, word 16 0xCB4E .bit1IndHl, word 16 0xCB4F .bit1A,
  word 16 0xCB50 .bit2B, word 16 0xCB51 .bit2C, word 16 0xCB52 .bit2D, word 16 0xCB53 .bit2E,
  word 16 0xCB54 .bit2H, word 16 0xCB55 .bit2L, word 16 0xCB56 .bit2IndHl, word 16 0xCB57 .bit2A,
  word 16 0xCB58 .bit3B, word 16 0xCB59 .bit3C, word 16 0xCB5A .bit3D, word 16 0xCB5B .bit3E,
  word 16 0xCB5C .bit3H, word 16 0xCB5D .bit3L, word 16 0xCB5E .bit3IndHl, word 16 0xCB5F .bit3A]

/-- Words of the cbBit rows, operands filled in (30 R56 to R60). -/
def wordsCbBitB : List (Nat × Nat × Instr) := [
  word 16 0xCB60 .bit4B, word 16 0xCB61 .bit4C, word 16 0xCB62 .bit4D, word 16 0xCB63 .bit4E,
  word 16 0xCB64 .bit4H, word 16 0xCB65 .bit4L, word 16 0xCB66 .bit4IndHl, word 16 0xCB67 .bit4A,
  word 16 0xCB68 .bit5B, word 16 0xCB69 .bit5C, word 16 0xCB6A .bit5D, word 16 0xCB6B .bit5E,
  word 16 0xCB6C .bit5H, word 16 0xCB6D .bit5L, word 16 0xCB6E .bit5IndHl, word 16 0xCB6F .bit5A,
  word 16 0xCB70 .bit6B, word 16 0xCB71 .bit6C, word 16 0xCB72 .bit6D, word 16 0xCB73 .bit6E,
  word 16 0xCB74 .bit6H, word 16 0xCB75 .bit6L, word 16 0xCB76 .bit6IndHl, word 16 0xCB77 .bit6A,
  word 16 0xCB78 .bit7B, word 16 0xCB79 .bit7C, word 16 0xCB7A .bit7D, word 16 0xCB7B .bit7E,
  word 16 0xCB7C .bit7H, word 16 0xCB7D .bit7L, word 16 0xCB7E .bit7IndHl, word 16 0xCB7F .bit7A]

theorem test_decode_wordsCbBitA : ∀ row ∈ wordsCbBitA, decodeTableWord row.1 row.2.1 = some row.2.2 := by decide
theorem test_encode_wordsCbBitA : ∀ row ∈ wordsCbBitA, encode row.2.2 = (tableBytes row.1 row.2.1).take (row.1 / 8) := by decide

theorem test_decode_wordsCbBitB : ∀ row ∈ wordsCbBitB, decodeTableWord row.1 row.2.1 = some row.2.2 := by decide
theorem test_encode_wordsCbBitB : ∀ row ∈ wordsCbBitB, encode row.2.2 = (tableBytes row.1 row.2.1).take (row.1 / 8) := by decide

/-- Words of the ed rows, operands filled in (30 R56 to R60). -/
def wordsEd : List (Nat × Nat × Instr) := [
  word 16 0xED42 .sbcHlBc, word 16 0xED52 .sbcHlDe, word 16 0xED62 .sbcHlHl, word 16 0xED72 .sbcHlSp,
  word 16 0xED4A .adcHlBc, word 16 0xED5A .adcHlDe, word 16 0xED6A .adcHlHl, word 16 0xED7A .adcHlSp]

theorem test_decode_wordsEd : ∀ row ∈ wordsEd, decodeTableWord row.1 row.2.1 = some row.2.2 := by decide
theorem test_encode_wordsEd : ∀ row ∈ wordsEd, encode row.2.2 = (tableBytes row.1 row.2.1).take (row.1 / 8) := by decide

/-- Words of the index rows, operands filled in (30 R56 to R60). -/
def wordsIndex : List (Nat × Nat × Instr) := [
  word 32 0xDD219A12 (.ldIxNn 0x129A), word 24 0xDD773B (.ldIndIxA (59)), word 24 0xDD96C7 (.subIndIx (-57)),
  word 32 0xDDCB3D46 (.bit0IndIx (61)), word 32 0xDDCBC54E (.bit1IndIx (-59)),
  word 32 0xDDCB3F56 (.bit2IndIx (63)), word 32 0xDDCBC35E (.bit3IndIx (-61)),
  word 32 0xDDCB4166 (.bit4IndIx (65)), word 32 0xDDCBC16E (.bit5IndIx (-63)),
  word 32 0xDDCB4376 (.bit6IndIx (67)), word 32 0xDDCBBF7E (.bit7IndIx (-65)),
  word 32 0xFD21A512 (.ldIyNn 0x12A5), word 24 0xFD77BD (.ldIndIyA (-67)), word 24 0xFD9647 (.subIndIy (71)),
  word 32 0xFDCBBB46 (.bit0IndIy (-69)), word 32 0xFDCB494E (.bit1IndIy (73)),
  word 32 0xFDCBB956 (.bit2IndIy (-71)), word 32 0xFDCB4B5E (.bit3IndIy (75)),
  word 32 0xFDCBB766 (.bit4IndIy (-73)), word 32 0xFDCB4D6E (.bit5IndIy (77)),
  word 32 0xFDCBB576 (.bit6IndIy (-75)), word 32 0xFDCB4F7E (.bit7IndIy (79))]

theorem test_decode_wordsIndex : ∀ row ∈ wordsIndex, decodeTableWord row.1 row.2.1 = some row.2.2 := by decide
theorem test_encode_wordsIndex : ∀ row ∈ wordsIndex, encode row.2.2 = (tableBytes row.1 row.2.1).take (row.1 / 8) := by decide

/-! ### One word of each family, bit by bit from its encoding -/

theorem test_word_ld_a_n : decode 0b00111110 0x05 0 0 = .instr (.ldAN 0x05) := by decide
theorem test_word_ld_hl_nn : decode 0b00100001 0x34 0x12 0 = .instr (.ldHlNn 0x1234) := by decide
theorem test_word_ld_indHl_e : decode 0b01110011 0 0 0 = .instr .ldIndHlE := by decide
theorem test_word_add_a_l : decode 0b10000101 0 0 0 = .instr .addAL := by decide
theorem test_word_sub_d : decode 0b10010010 0 0 0 = .instr .subD := by decide
theorem test_word_adc_hl_de : decode 0b11101101 0b01011010 0 0 = .instr .adcHlDe := by decide
theorem test_word_sbc_hl_sp : decode 0b11101101 0b01110010 0 0 = .instr .sbcHlSp := by decide
theorem test_word_rr_c : decode 0b11001011 0b00011001 0 0 = .instr .rrC := by decide
theorem test_word_sra_indHl : decode 0b11001011 0b00101110 0 0 = .instr .sraIndHl := by decide
theorem test_word_bit_5_h : decode 0b11001011 0b01101100 0 0 = .instr .bit5H := by decide
theorem test_word_jr : decode 0b00011000 0b11111011 0 0 = .instr (.jrE (-5)) := by decide
theorem test_word_call : decode 0b11001101 0x00 0x20 0 = .instr (.callNn 0x2000) := by decide
theorem test_word_scf : decode 0b00110111 0 0 0 = .instr .scf := by decide
theorem test_word_halt : decode 0b01110110 0 0 0 = .instr .halt := by decide
theorem test_word_sub_indIy : decode 0b11111101 0b10010110 0b11111110 0 = .instr (.subIndIy (-2)) := by decide
theorem test_word_bit_3_indIx : decode 0b11011101 0b11001011 0x02 0b01011110 = .instr (.bit3IndIx 2) := by decide

/-- The unknown opcodes of 46 R123, each at its level. -/
theorem test_unknown_levels :
    decode 0x08 0 0 0 = .unknown .u ∧ decode 0x36 0x12 0 0 = .unknown .u ∧ decode 0xCB 0x20 0 0 = .unknown .cb
      ∧ decode 0xCB 0xC7 0 0 = .unknown .cb ∧ decode 0xED 0x44 0 0 = .unknown .ed ∧ decode 0xDD 0x3E 0 0 = .unknown .xy
      ∧ decode 0xDD 0xDD 0 0 = .unknown .xy ∧ decode 0xFD 0xCB 0x05 0xC6 = .unknown .xycb
      ∧ decode 0xDD 0xCB 0x05 0x40 = .unknown .xycb := by decide

/-! ### Ill-formed terms, which the check refuses -/

/-- The forms with a displacement. -/
def displaced (x : Int) : List Instr := [
    .jrE x, .ldIndIxA x, .subIndIx x, .bit0IndIx x, .bit1IndIx x, .bit2IndIx x, .bit3IndIx x, .bit4IndIx x,
    .bit5IndIx x, .bit6IndIx x, .bit7IndIx x, .ldIndIyA x, .subIndIy x, .bit0IndIy x, .bit1IndIy x,
    .bit2IndIy x, .bit3IndIy x, .bit4IndIy x, .bit5IndIy x, .bit6IndIy x, .bit7IndIy x]

theorem test_illFormed_above : ∀ i ∈ displaced 128, wellFormed i = false := by decide
theorem test_illFormed_below : ∀ i ∈ displaced (-129), wellFormed i = false := by decide
theorem test_wellFormed_bounds : ∀ i ∈ displaced (-128) ++ displaced 127, wellFormed i = true := by decide

/-! ### The spec's tables of flag outcomes -/

/-- 41 R77. -/
theorem test_table_add8 : ([
    (0x05, 0x03, 0x08, 0x00), (0x00, 0x00, 0x00, 0x40), (0xFF, 0x01, 0x00, 0x51),
    (0x0F, 0x01, 0x10, 0x10), (0x7F, 0x01, 0x80, 0x90), (0x80, 0x80, 0x00, 0x41),
    (0x88, 0x88, 0x10, 0x11), (0xFF, 0xFF, 0xFE, 0x91)] : List (Byte × Byte × Byte × Byte)).all
    (fun t => add8 t.1 t.2.1 == t.2.2) = true := by decide

/-- 41 R77. -/
theorem test_table_sub8 : ([
    (0x05, 0x03, 0x02, 0x02), (0x03, 0x05, 0xFE, 0x93), (0x00, 0x00, 0x00, 0x42),
    (0x00, 0x01, 0xFF, 0x93), (0x10, 0x01, 0x0F, 0x12), (0x80, 0x01, 0x7F, 0x12),
    (0x7F, 0xFF, 0x80, 0x83), (0x00, 0x80, 0x80, 0x83), (0x10, 0x20, 0xF0, 0x83)] : List (Byte × Byte × Byte × Byte)).all
    (fun t => sub8 t.1 t.2.1 == t.2.2) = true := by decide

/-- 42 R83. -/
theorem test_table_adc16 : ([
    (0x1000, 0x0234, false, 0x1234, 0x00), (0xFFFF, 0x0000, true, 0x0000, 0x51), (0x0FFF, 0x0001, false, 0x1000, 0x10),
    (0x7FFF, 0x0000, true, 0x8000, 0x90), (0x8000, 0x8000, false, 0x0000, 0x41), (0x0000, 0x0000, false, 0x0000, 0x40),
    (0xFFFF, 0xFFFF, true, 0xFFFF, 0x91), (0x1234, 0x1234, true, 0x2469, 0x00)] : List (Word × Word × Bool × Word × Byte)).all
    (fun t => adc16 t.1 t.2.1 t.2.2.1 == t.2.2.2) = true := by decide

/-- 42 R83. -/
theorem test_table_sbc16 : ([
    (0x1000, 0x0234, false, 0x0DCC, 0x12), (0x0000, 0x0000, true, 0xFFFF, 0x93), (0x0000, 0x0001, false, 0xFFFF, 0x93),
    (0x1000, 0x0001, false, 0x0FFF, 0x12), (0x8000, 0x0000, true, 0x7FFF, 0x12), (0x1234, 0x1234, false, 0x0000, 0x42),
    (0x1234, 0x1233, true, 0x0000, 0x42), (0x0000, 0xFFFF, true, 0x0000, 0x53), (0x5555, 0x5555, true, 0xFFFF, 0x93)] : List (Word × Word × Bool × Word × Byte)).all
    (fun t => sbc16 t.1 t.2.1 t.2.2.1 == t.2.2.2) = true := by decide

/-- 43 R97. -/
theorem test_table_rlc : ([
    (0x80, false, 0x01, 0x01), (0x01, false, 0x02, 0x00), (0x00, true, 0x00, 0x40),
    (0x00, false, 0x00, 0x40), (0xFF, false, 0xFF, 0x81), (0x55, true, 0xAA, 0x80),
    (0xAA, false, 0x55, 0x01), (0x81, true, 0x03, 0x01), (0x40, false, 0x80, 0x80)] : List (Byte × Bool × Byte × Byte)).all
    (fun t => rotated .rlc t.1 t.2.1 == t.2.2) = true := by decide

/-- 43 R97. -/
theorem test_table_rrc : ([
    (0x80, false, 0x40, 0x00), (0x01, false, 0x80, 0x81), (0x00, true, 0x00, 0x40),
    (0x00, false, 0x00, 0x40), (0xFF, false, 0xFF, 0x81), (0x55, true, 0xAA, 0x81),
    (0xAA, false, 0x55, 0x00), (0x81, true, 0xC0, 0x81), (0x40, false, 0x20, 0x00)] : List (Byte × Bool × Byte × Byte)).all
    (fun t => rotated .rrc t.1 t.2.1 == t.2.2) = true := by decide

/-- 43 R97. -/
theorem test_table_rl : ([
    (0x80, false, 0x00, 0x41), (0x01, false, 0x02, 0x00), (0x00, true, 0x01, 0x00),
    (0x00, false, 0x00, 0x40), (0xFF, false, 0xFE, 0x81), (0x55, true, 0xAB, 0x80),
    (0xAA, false, 0x54, 0x01), (0x81, true, 0x03, 0x01), (0x40, false, 0x80, 0x80)] : List (Byte × Bool × Byte × Byte)).all
    (fun t => rotated .rl t.1 t.2.1 == t.2.2) = true := by decide

/-- 43 R97. -/
theorem test_table_rr : ([
    (0x80, false, 0x40, 0x00), (0x01, false, 0x00, 0x41), (0x00, true, 0x80, 0x80),
    (0x00, false, 0x00, 0x40), (0xFF, false, 0x7F, 0x01), (0x55, true, 0xAA, 0x81),
    (0xAA, false, 0x55, 0x00), (0x81, true, 0xC0, 0x81), (0x40, false, 0x20, 0x00)] : List (Byte × Bool × Byte × Byte)).all
    (fun t => rotated .rr t.1 t.2.1 == t.2.2) = true := by decide

/-- 43 R97. -/
theorem test_table_sra : ([
    (0x80, false, 0xC0, 0x80), (0x01, false, 0x00, 0x41), (0x00, true, 0x00, 0x40),
    (0x00, false, 0x00, 0x40), (0xFF, false, 0xFF, 0x81), (0x55, true, 0x2A, 0x01),
    (0xAA, false, 0xD5, 0x80), (0x81, true, 0xC0, 0x81), (0x40, false, 0x20, 0x00)] : List (Byte × Bool × Byte × Byte)).all
    (fun t => rotated .sra t.1 t.2.1 == t.2.2) = true := by decide

/-- 44 R103. -/
theorem test_table_bitf : ([
    (0x40, 0x00, 0, 0x50), (0x40, 0x01, 0, 0x10), (0x00, 0x80, 7, 0x90),
    (0x00, 0x7F, 7, 0x50), (0x80, 0x80, 6, 0x50), (0x80, 0x40, 6, 0x10),
    (0xFF, 0xFF, 3, 0x3F), (0xFF, 0x00, 3, 0x7F), (0x03, 0x10, 4, 0x13),
    (0x81, 0x80, 7, 0x91), (0xC3, 0x7F, 7, 0x53)] : List (Byte × Byte × Fin 8 × Byte)).all
    (fun t => bitf t.1 t.2.1 t.2.2.1 == t.2.2.2) = true := by decide

/-! ### One-step vectors -/

/-- T-LD1 of 95. -/
theorem test_ldAN_LD1 :
    let s := start 0x0000 [0x3E, 0x05] State.reset
    after s = { done s 0x0002 7 with regs := { s.regs with a := 0x05, f := 0x40 } } := by decide

/-- T-LD2 of 95. -/
theorem test_ldLN_LD2 :
    let s := start 0x0000 [0x2E, 0xFF] State.reset
    after s = { done s 0x0002 7 with regs := { s.regs with l := 0xFF, f := 0x40 } } := by decide

/-- T-LD3 of 95. -/
theorem test_ldDN_LD3 :
    let s := start 0x0000 [0x16, 0x00] { State.reset with regs := { State.reset.regs with f := 0x93 } }
    after s = { done s 0x0002 7 with regs := { s.regs with f := 0x93 } } := by decide

/-- T-LD4 of 95. -/
theorem test_ldBcNn_LD4 :
    let s := start 0x0000 [0x01, 0x34, 0x12] State.reset
    after s = { done s 0x0003 10 with regs := { s.regs with b := 0x12, c := 0x34, f := 0x40 } } := by decide

/-- T-LD5 of 95. -/
theorem test_ldSpNn_LD5 :
    let s := start 0x0000 [0x31, 0xFE, 0xFF] State.reset
    after s = { done s 0x0003 10 with regs := { s.regs with f := 0x40 }, sp := 0xFFFE } := by decide

/-- T-LD6 of 95. -/
theorem test_ldHlNn_LD6 :
    let s := start 0xFFFE [0x21, 0xCD] (State.storeBytes State.reset 0x0000 [0xAB])
    after s = { done s 0x0001 10 with regs := { s.regs with h := 0xAB, l := 0xCD, f := 0x40 } } := by decide

/-- T-LD7 of 95. -/
theorem test_ldIndBcA_LD7 :
    let s := start 0x0000 [0x02] { State.reset with regs := { State.reset.regs with a := 0x5A, b := 0x80, c := 0x00 } }
    after s = ({ done s 0x0001 7 with regs := { s.regs with f := 0x40 } }).memWrite 0x8000 0x5A := by decide

/-- T-LD8 of 95. -/
theorem test_ldIndDeA_LD8 :
    let s := start 0x0000 [0x12] { State.reset with regs := { State.reset.regs with a := 0xA5, d := 0xFF, e := 0xFF } }
    after s = ({ done s 0x0001 7 with regs := { s.regs with f := 0x40 } }).memWrite 0xFFFF 0xA5 := by decide

/-- T-LD9 of 95. -/
theorem test_ldIndHlH_LD9 :
    let s := start 0x0000 [0x74] { State.reset with regs := { State.reset.regs with h := 0x40, l := 0x00 } }
    after s = ({ done s 0x0001 7 with regs := { s.regs with f := 0x40 } }).memWrite 0x4000 0x40 := by decide

/-- T-LD10 of 95. -/
theorem test_ldIndHlL_LD10 :
    let s := start 0x0000 [0x75] { State.reset with regs := { State.reset.regs with h := 0x40, l := 0x01 } }
    after s = ({ done s 0x0001 7 with regs := { s.regs with f := 0x40 } }).memWrite 0x4001 0x01 := by decide

/-- T-LD11 of 95. -/
theorem test_ldIndHlA_LD11 :
    let s := start 0x0000 [0x77] { State.reset with regs := { State.reset.regs with h := 0x12, l := 0x34, a := 0x99 } }
    after s = ({ done s 0x0001 7 with regs := { s.regs with f := 0x40 } }).memWrite 0x1234 0x99 := by decide

/-- T-LD12 of 95. -/
theorem test_ldIndHlB_LD12 :
    let s := start 0x0010 [0x70] { State.reset with regs := { State.reset.regs with h := 0x00, l := 0x10, b := 0x76 } }
    after s = ({ done s 0x0011 7 with regs := { s.regs with f := 0x40 } }).memWrite 0x0010 0x76 := by decide

/-- T-LD13 of 95. -/
theorem test_unknown_LD13 :
    let s := start 0x0000 [0x36, 0x12] { State.reset with regs := { State.reset.regs with h := 0x20, l := 0x00 } }
    after s = { done s 0x0001 4 with regs := { s.regs with f := 0x40 }, unkCount := 1 } := by decide

/-- T-A8-1 of 95. -/
theorem test_addAB_A8_1 :
    let s := start 0x0000 [0x80] { State.reset with regs := { State.reset.regs with a := 0x05, b := 0x03 } }
    after s = { done s 0x0001 4 with regs := { s.regs with a := 0x08, f := 0x00 } } := by decide

/-- T-A8-2 of 95. -/
theorem test_addAC_A8_2 :
    let s := start 0x0000 [0x81] { State.reset with regs := { State.reset.regs with a := 0x0F, c := 0x01 } }
    after s = { done s 0x0001 4 with regs := { s.regs with a := 0x10, f := 0x10 } } := by decide

/-- T-A8-3 of 95. -/
theorem test_addAD_A8_3 :
    let s := start 0x0000 [0x82] { State.reset with regs := { State.reset.regs with a := 0xFF, d := 0x01 } }
    after s = { done s 0x0001 4 with regs := { s.regs with a := 0x00, f := 0x51 } } := by decide

/-- T-A8-4 of 95. -/
theorem test_addAE_A8_4 :
    let s := start 0x0000 [0x83] { State.reset with regs := { State.reset.regs with a := 0x7F, e := 0x01 } }
    after s = { done s 0x0001 4 with regs := { s.regs with a := 0x80, f := 0x90 } } := by decide

/-- T-A8-5 of 95. -/
theorem test_addAA_A8_5 :
    let s := start 0x0000 [0x87] { State.reset with regs := { State.reset.regs with a := 0x80 } }
    after s = { done s 0x0001 4 with regs := { s.regs with a := 0x00, f := 0x41 } } := by decide

/-- T-A8-6 of 95. -/
theorem test_addAH_A8_6 :
    let s := start 0x0000 [0x84] { State.reset with regs := { State.reset.regs with a := 0x00, h := 0x00, f := 0x13 } }
    after s = { done s 0x0001 4 with regs := { s.regs with a := 0x00, f := 0x40 } } := by decide

/-- T-A8-7 of 95. -/
theorem test_addAL_A8_7 :
    let s := start 0x0000 [0x85] { State.reset with regs := { State.reset.regs with a := 0x38, l := 0x48 } }
    after s = { done s 0x0001 4 with regs := { s.regs with a := 0x80, f := 0x90 } } := by decide

/-- T-A8-8 of 95. -/
theorem test_subB_A8_8 :
    let s := start 0x0000 [0x90] { State.reset with regs := { State.reset.regs with a := 0x05, b := 0x03 } }
    after s = { done s 0x0001 4 with regs := { s.regs with a := 0x02, f := 0x02 } } := by decide

/-- T-A8-9 of 95. -/
theorem test_subC_A8_9 :
    let s := start 0x0000 [0x91] { State.reset with regs := { State.reset.regs with a := 0x00, c := 0x01 } }
    after s = { done s 0x0001 4 with regs := { s.regs with a := 0xFF, f := 0x93 } } := by decide

/-- T-A8-10 of 95. -/
theorem test_subA_A8_10 :
    let s := start 0x0000 [0x97] { State.reset with regs := { State.reset.regs with a := 0x42 } }
    after s = { done s 0x0001 4 with regs := { s.regs with a := 0x00, f := 0x42 } } := by decide

/-- T-A8-11 of 95. -/
theorem test_subD_A8_11 :
    let s := start 0x0000 [0x92] { State.reset with regs := { State.reset.regs with a := 0x10, d := 0x01 } }
    after s = { done s 0x0001 4 with regs := { s.regs with a := 0x0F, f := 0x12 } } := by decide

/-- T-A8-12 of 95. -/
theorem test_subE_A8_12 :
    let s := start 0x0000 [0x93] { State.reset with regs := { State.reset.regs with a := 0x80, e := 0x01 } }
    after s = { done s 0x0001 4 with regs := { s.regs with a := 0x7F, f := 0x12 } } := by decide

/-- T-A8-13 of 95. -/
theorem test_subH_A8_13 :
    let s := start 0x0000 [0x94] { State.reset with regs := { State.reset.regs with a := 0x05, h := 0x05, f := 0x01 } }
    after s = { done s 0x0001 4 with regs := { s.regs with a := 0x00, f := 0x42 } } := by decide

/-- T-A8-14 of 95. -/
theorem test_subL_A8_14 :
    let s := start 0x0000 [0x95] { State.reset with regs := { State.reset.regs with a := 0x7F, l := 0xFF } }
    after s = { done s 0x0001 4 with regs := { s.regs with a := 0x80, f := 0x83 } } := by decide

/-- T-A8-15 of 95. -/
theorem test_unknown_A8_15 :
    let s := start 0x0000 [0x86] (State.storeBytes { State.reset with regs := { State.reset.regs with a := 0x05, h := 0x01, l := 0x00 } } 0x0100 [0x03])
    after s = { done s 0x0001 4 with regs := { s.regs with f := 0x40 }, unkCount := 1 } := by decide

/-- T-A16-1 of 95. -/
theorem test_adcHlBc_A16_1 :
    let s := start 0x0000 [0xED, 0x4A] { State.reset with regs := { State.reset.regs with h := 0x0F, l := 0xFF, b := 0x00, c := 0x01, f := 0x00 } }
    after s = { done s 0x0002 15 with regs := { s.regs with f := 0x10, h := 0x10, l := 0x00 } } := by decide

/-- T-A16-2 of 95. -/
theorem test_adcHlHl_A16_2 :
    let s := start 0x0000 [0xED, 0x6A] { State.reset with regs := { State.reset.regs with h := 0x80, l := 0x00, f := 0x01 } }
    after s = { done s 0x0002 15 with regs := { s.regs with h := 0x00, l := 0x01, f := 0x01 } } := by decide

/-- T-A16-3 of 95. -/
theorem test_adcHlDe_A16_3 :
    let s := start 0x0000 [0xED, 0x5A] { State.reset with regs := { State.reset.regs with h := 0xFF, l := 0xFF, d := 0x00, e := 0x00, f := 0x01 } }
    after s = { done s 0x0002 15 with regs := { s.regs with f := 0x51, h := 0x00, l := 0x00 } } := by decide

/-- T-A16-4 of 95. -/
theorem test_adcHlSp_A16_4 :
    let s := start 0x0000 [0xED, 0x7A] { State.reset with regs := { State.reset.regs with h := 0x7F, l := 0xFF, f := 0x40 }, sp := 0x0001 }
    after s = { done s 0x0002 15 with regs := { s.regs with f := 0x90, h := 0x80, l := 0x00 } } := by decide

/-- T-A16-5 of 95. -/
theorem test_adcHlBc_A16_5 :
    let s := start 0x0000 [0xED, 0x4A] { State.reset with regs := { State.reset.regs with h := 0x12, l := 0x34, b := 0x11, c := 0x11, f := 0xFF } }
    after s = { done s 0x0002 15 with regs := { s.regs with f := 0x00, h := 0x23, l := 0x46 } } := by decide

/-- T-A16-6 of 95. -/
theorem test_sbcHlBc_A16_6 :
    let s := start 0x0000 [0xED, 0x42] { State.reset with regs := { State.reset.regs with h := 0x00, l := 0x00, b := 0x00, c := 0x01, f := 0x00 } }
    after s = { done s 0x0002 15 with regs := { s.regs with f := 0x93, h := 0xFF, l := 0xFF } } := by decide

/-- T-A16-7 of 95. -/
theorem test_sbcHlHl_A16_7 :
    let s := start 0x0000 [0xED, 0x62] { State.reset with regs := { State.reset.regs with h := 0x12, l := 0x34, f := 0x01 } }
    after s = { done s 0x0002 15 with regs := { s.regs with f := 0x93, h := 0xFF, l := 0xFF } } := by decide

/-- T-A16-8 of 95. -/
theorem test_sbcHlDe_A16_8 :
    let s := start 0x0000 [0xED, 0x52] { State.reset with regs := { State.reset.regs with h := 0x10, l := 0x00, d := 0x00, e := 0x01, f := 0x40 } }
    after s = { done s 0x0002 15 with regs := { s.regs with f := 0x12, h := 0x0F, l := 0xFF } } := by decide

/-- T-A16-9 of 95. -/
theorem test_sbcHlSp_A16_9 :
    let s := start 0x0000 [0xED, 0x72] { State.reset with regs := { State.reset.regs with h := 0x80, l := 0x00, f := 0x00 }, sp := 0x8000 }
    after s = { done s 0x0002 15 with regs := { s.regs with f := 0x42, h := 0x00 } } := by decide

/-- T-A16-10 of 95. -/
theorem test_sbcHlBc_A16_10 :
    let s := start 0x0000 [0xED, 0x42] { State.reset with regs := { State.reset.regs with h := 0x80, l := 0x00, b := 0x00, c := 0x00, f := 0x01 } }
    after s = { done s 0x0002 15 with regs := { s.regs with f := 0x12, h := 0x7F, l := 0xFF } } := by decide

/-- T-A16-11 of 95. -/
theorem test_unknown_A16_11 :
    let s := start 0x0000 [0xED, 0x4B, 0x00, 0x10] { State.reset with regs := { State.reset.regs with h := 0x12, l := 0x34, b := 0x00, c := 0x01 } }
    after s = { done s 0x0002 4 with regs := { s.regs with f := 0x40 }, unkCount := 1 } := by decide

/-- T-RS1 of 95. -/
theorem test_rlcB_RS1 :
    let s := start 0x0000 [0xCB, 0x00] { State.reset with regs := { State.reset.regs with b := 0x81, f := 0x00 } }
    after s = { done s 0x0002 8 with regs := { s.regs with f := 0x01, b := 0x03 } } := by decide

/-- T-RS2 of 95. -/
theorem test_rlcA_RS2 :
    let s := start 0x0000 [0xCB, 0x07] { State.reset with regs := { State.reset.regs with a := 0x00, f := 0x01 } }
    after s = { done s 0x0002 8 with regs := { s.regs with a := 0x00, f := 0x40 } } := by decide

/-- T-RS3 of 95. -/
theorem test_rlcIndHl_RS3 :
    let s := start 0x0000 [0xCB, 0x06] (State.storeBytes { State.reset with regs := { State.reset.regs with h := 0x01, l := 0x00, f := 0x00 } } 0x0100 [0x80])
    after s = ({ done s 0x0002 12 with regs := { s.regs with f := 0x01 } }).memWrite 0x0100 0x01 := by decide

/-- T-RS4 of 95. -/
theorem test_rrcC_RS4 :
    let s := start 0x0000 [0xCB, 0x09] { State.reset with regs := { State.reset.regs with c := 0x01, f := 0x00 } }
    after s = { done s 0x0002 8 with regs := { s.regs with f := 0x81, c := 0x80 } } := by decide

/-- T-RS5 of 95. -/
theorem test_rrcD_RS5 :
    let s := start 0x0000 [0xCB, 0x0A] { State.reset with regs := { State.reset.regs with d := 0x02, f := 0x01 } }
    after s = { done s 0x0002 8 with regs := { s.regs with f := 0x00, d := 0x01 } } := by decide

/-- T-RS6 of 95. -/
theorem test_rrcIndHl_RS6 :
    let s := start 0x0000 [0xCB, 0x0E] (State.storeBytes { State.reset with regs := { State.reset.regs with h := 0x01, l := 0x00, f := 0x00 } } 0x0100 [0x81])
    after s = ({ done s 0x0002 12 with regs := { s.regs with f := 0x81 } }).memWrite 0x0100 0xC0 := by decide

/-- T-RS7 of 95. -/
theorem test_rlE_RS7 :
    let s := start 0x0000 [0xCB, 0x13] { State.reset with regs := { State.reset.regs with e := 0x80, f := 0x00 } }
    after s = { done s 0x0002 8 with regs := { s.regs with f := 0x41, e := 0x00 } } := by decide

/-- T-RS8 of 95. -/
theorem test_rlE_RS8 :
    let s := start 0x0000 [0xCB, 0x13] { State.reset with regs := { State.reset.regs with e := 0x80, f := 0x01 } }
    after s = { done s 0x0002 8 with regs := { s.regs with e := 0x01, f := 0x01 } } := by decide

/-- T-RS9 of 95. -/
theorem test_rlA_RS9 :
    let s := start 0x0000 [0xCB, 0x17] { State.reset with regs := { State.reset.regs with a := 0x7F, f := 0x01 } }
    after s = { done s 0x0002 8 with regs := { s.regs with a := 0xFF, f := 0x80 } } := by decide

/-- T-RS10 of 95. -/
theorem test_rlIndHl_RS10 :
    let s := start 0x0000 [0xCB, 0x16] (State.storeBytes { State.reset with regs := { State.reset.regs with h := 0x01, l := 0x00, f := 0x01 } } 0x0100 [0x40])
    after s = ({ done s 0x0002 12 with regs := { s.regs with f := 0x80 } }).memWrite 0x0100 0x81 := by decide

/-- T-RS11 of 95. -/
theorem test_rrH_RS11 :
    let s := start 0x0000 [0xCB, 0x1C] { State.reset with regs := { State.reset.regs with h := 0x01, f := 0x00 } }
    after s = { done s 0x0002 8 with regs := { s.regs with f := 0x41, h := 0x00 } } := by decide

/-- T-RS12 of 95. -/
theorem test_rrH_RS12 :
    let s := start 0x0000 [0xCB, 0x1C] { State.reset with regs := { State.reset.regs with h := 0x01, f := 0x01 } }
    after s = { done s 0x0002 8 with regs := { s.regs with f := 0x81, h := 0x80 } } := by decide

/-- T-RS13 of 95. -/
theorem test_rrL_RS13 :
    let s := start 0x0000 [0xCB, 0x1D] { State.reset with regs := { State.reset.regs with l := 0x00, f := 0x01 } }
    after s = { done s 0x0002 8 with regs := { s.regs with f := 0x80, l := 0x80 } } := by decide

/-- T-RS14 of 95. -/
theorem test_rrIndHl_RS14 :
    let s := start 0x0000 [0xCB, 0x1E] (State.storeBytes { State.reset with regs := { State.reset.regs with h := 0x01, l := 0x00, f := 0x01 } } 0x0100 [0xFE])
    after s = ({ done s 0x0002 12 with regs := { s.regs with f := 0x80 } }).memWrite 0x0100 0xFF := by decide

/-- T-RS15 of 95. -/
theorem test_sraA_RS15 :
    let s := start 0x0000 [0xCB, 0x2F] { State.reset with regs := { State.reset.regs with a := 0x81, f := 0x00 } }
    after s = { done s 0x0002 8 with regs := { s.regs with a := 0xC0, f := 0x81 } } := by decide

/-- T-RS16 of 95. -/
theorem test_sraB_RS16 :
    let s := start 0x0000 [0xCB, 0x28] { State.reset with regs := { State.reset.regs with b := 0x01, f := 0x00 } }
    after s = { done s 0x0002 8 with regs := { s.regs with f := 0x41, b := 0x00 } } := by decide

/-- T-RS17 of 95. -/
theorem test_sraC_RS17 :
    let s := start 0x0000 [0xCB, 0x29] { State.reset with regs := { State.reset.regs with c := 0x7E, f := 0x13 } }
    after s = { done s 0x0002 8 with regs := { s.regs with f := 0x00, c := 0x3F } } := by decide

/-- T-RS18 of 95. -/
theorem test_sraIndHl_RS18 :
    let s := start 0x0000 [0xCB, 0x2E] (State.storeBytes { State.reset with regs := { State.reset.regs with h := 0x01, l := 0x00, f := 0x00 } } 0x0100 [0xFF])
    after s = ({ done s 0x0002 12 with regs := { s.regs with f := 0x81 } }).memWrite 0x0100 0xFF := by decide

/-- T-RS19 of 95. -/
theorem test_rlcIndHl_RS19 :
    let s := start 0x0000 [0xCB, 0x06] { State.reset with regs := { State.reset.regs with h := 0x00, l := 0x01, f := 0x00 } }
    after s = ({ done s 0x0002 12 with regs := { s.regs with f := 0x00 } }).memWrite 0x0001 0x0C := by decide

/-- T-RS20 of 95. -/
theorem test_unknown_RS20 :
    let s := start 0x0000 [0xCB, 0x20] { State.reset with regs := { State.reset.regs with b := 0x81, f := 0x01 } }
    after s = { done s 0x0002 4 with regs := { s.regs with f := 0x01 }, unkCount := 1 } := by decide

/-- T-BT1 of 95. -/
theorem test_bit7A_BT1 :
    let s := start 0x0000 [0xCB, 0x7F] { State.reset with regs := { State.reset.regs with a := 0x80, f := 0x00 } }
    after s = { done s 0x0002 12 with regs := { s.regs with f := 0x90 } } := by decide

/-- T-BT2 of 95. -/
theorem test_bit7A_BT2 :
    let s := start 0x0000 [0xCB, 0x7F] { State.reset with regs := { State.reset.regs with a := 0x7F, f := 0x00 } }
    after s = { done s 0x0002 12 with regs := { s.regs with f := 0x50 } } := by decide

/-- T-BT3 of 95. -/
theorem test_bit0B_BT3 :
    let s := start 0x0000 [0xCB, 0x40] { State.reset with regs := { State.reset.regs with b := 0x01, f := 0x00 } }
    after s = { done s 0x0002 12 with regs := { s.regs with f := 0x10 } } := by decide

/-- T-BT4 of 95. -/
theorem test_bit0B_BT4 :
    let s := start 0x0000 [0xCB, 0x40] { State.reset with regs := { State.reset.regs with b := 0xFE, f := 0x00 } }
    after s = { done s 0x0002 12 with regs := { s.regs with f := 0x50 } } := by decide

/-- T-BT5 of 95. -/
theorem test_bit6C_BT5 :
    let s := start 0x0000 [0xCB, 0x71] { State.reset with regs := { State.reset.regs with c := 0xFF, f := 0x83 } }
    after s = { done s 0x0002 12 with regs := { s.regs with f := 0x13 } } := by decide

/-- T-BT6 of 95. -/
theorem test_bit6D_BT6 :
    let s := start 0x0000 [0xCB, 0x72] { State.reset with regs := { State.reset.regs with d := 0x40, f := 0xC3 } }
    after s = { done s 0x0002 12 with regs := { s.regs with f := 0x13 } } := by decide

/-- T-BT7 of 95. -/
theorem test_bit3E_BT7 :
    let s := start 0x0000 [0xCB, 0x5B] { State.reset with regs := { State.reset.regs with e := 0x00, f := 0xAF } }
    after s = { done s 0x0002 12 with regs := { s.regs with f := 0x7F } } := by decide

/-- T-BT8 of 95. -/
theorem test_bit3IndHl_BT8 :
    let s := start 0x0000 [0xCB, 0x5E] (State.storeBytes { State.reset with regs := { State.reset.regs with h := 0x01, l := 0x00, f := 0x00 } } 0x0100 [0x08])
    after s = { done s 0x0002 12 with regs := { s.regs with f := 0x10 } } := by decide

/-- T-BT9 of 95. -/
theorem test_bit7IndHl_BT9 :
    let s := start 0x0000 [0xCB, 0x7E] (State.storeBytes { State.reset with regs := { State.reset.regs with h := 0x01, l := 0x00, f := 0x01 } } 0x0100 [0x80])
    after s = { done s 0x0002 12 with regs := { s.regs with f := 0x91 } } := by decide

/-- T-BT10 of 95. -/
theorem test_bit0IndHl_BT10 :
    let s := start 0x0000 [0xCB, 0x46] { State.reset with regs := { State.reset.regs with h := 0x00, l := 0x00, f := 0x00 } }
    after s = { done s 0x0002 12 with regs := { s.regs with f := 0x10 } } := by decide

/-- T-BT11 of 95. -/
theorem test_bit0A_BT11 :
    let s := start 0x0000 [0xCB, 0x47] State.reset
    after s = { done s 0x0002 12 with regs := { s.regs with f := 0x50 } } := by decide

/-- T-CT1 of 95. -/
theorem test_jpNn_CT1 :
    let s := start 0x0000 [0xC3, 0x34, 0x12] State.reset
    after s = { done s 0x1234 10 with regs := { s.regs with f := 0x40 } } := by decide

/-- T-CT2 of 95. -/
theorem test_jrE_CT2 :
    let s := start 0x0100 [0x18, 0x05] State.reset
    after s = { done s 0x0107 12 with regs := { s.regs with f := 0x40 } } := by decide

/-- T-CT3 of 95. -/
theorem test_callNn_CT3 :
    let s := start 0x0200 [0xCD, 0x34, 0x12] { State.reset with sp := 0x0100 }
    after s = (({ done s 0x1234 17 with regs := { s.regs with f := 0x40 }, sp := 0x00FE }).memWrite 0x00FE 0x03).memWrite 0x00FF 0x02 := by decide

/-- T-CT4 of 95. -/
theorem test_ret_CT4 :
    let s := start 0x1234 [0xC9] (State.storeBytes { State.reset with sp := 0x00FE } 0x00FE [0x03, 0x02])
    after s = { done s 0x0203 10 with regs := { s.regs with f := 0x40 }, sp := 0x0100 } := by decide

/-- T-CT5 of 95. -/
theorem test_jrE_CT5 :
    let s := start 0x0100 [0x18, 0xFB] State.reset
    after s = { done s 0x00FD 12 with regs := { s.regs with f := 0x40 } } := by decide

/-- T-CT10 of 95. -/
theorem test_callNn_CT10 :
    let s := start 0x0000 [0xCD, 0x00, 0x80] State.reset
    after s = (({ done s 0x8000 17 with regs := { s.regs with f := 0x40 }, sp := 0xFFFE }).memWrite 0xFFFE 0x03).memWrite 0xFFFF 0x00 := by decide

/-- T-CT12 of 95. -/
theorem test_ret_CT12 :
    let s := start 0x0010 [0xC9] (State.storeBytes (State.storeBytes { State.reset with sp := 0xFFFF } 0xFFFF [0x34]) 0x0000 [0x12])
    after s = { done s 0x1234 10 with regs := { s.regs with f := 0x40 }, sp := 0x0001 } := by decide

/-- T-CT14 of 95. -/
theorem test_jpNn_CT14 :
    let s := start 0x4000 [0xC3, 0x00, 0x00] { State.reset with regs := { State.reset.regs with f := 0xD7 } }
    after s = { done s 0x0000 10 with regs := { s.regs with f := 0xD7 } } := by decide

/-- T-MS1 of 95. -/
theorem test_nop_MS1 :
    let s := start 0x0000 [0x00] State.reset
    after s = { done s 0x0001 4 with regs := { s.regs with f := 0x40 } } := by decide

/-- T-MS2 of 95. -/
theorem test_halt_MS2 :
    let s := start 0x0000 [0x76] State.reset
    after s = ({ done s 0x0001 4 with regs := { s.regs with f := 0x40 } }).endRun .halt := by decide

/-- T-MS3 of 95. -/
theorem test_scf_MS3 :
    let s := start 0x0000 [0x37] State.reset
    after s = { done s 0x0001 4 with regs := { s.regs with f := 0x41 } } := by decide

/-- T-MS4 of 95. -/
theorem test_scf_MS4 :
    let s := start 0x0000 [0x37] { State.reset with regs := { State.reset.regs with f := 0x92 } }
    after s = { done s 0x0001 4 with regs := { s.regs with f := 0x81 } } := by decide

/-- T-MS7 of 95. -/
theorem test_unknown_MS7 :
    let s := start 0x0000 [0xFF] { State.reset with regs := { State.reset.regs with a := 0x12, f := 0x93 } }
    after s = { done s 0x0001 4 with regs := { s.regs with f := 0x93 }, unkCount := 1 } := by decide

/-- T-MS12 of 95. -/
theorem test_unknown_MS12 :
    let s := start 0x0000 [0xDD, 0xDD, 0x21, 0x34, 0x12] State.reset
    after s = { done s 0x0002 4 with regs := { s.regs with f := 0x40 }, unkCount := 1 } := by decide

/-- T-MS13 of 95. -/
theorem test_unknown_MS13 :
    let s := start 0x0000 [0xFD, 0xCB, 0x05, 0x06] State.reset
    after s = { done s 0x0004 4 with regs := { s.regs with f := 0x40 }, unkCount := 1 } := by decide

/-- T-MS17 of 95. -/
theorem test_unknown_MS17 :
    let s := start 0xFFFF [0xCB] (State.storeBytes State.reset 0x0000 [0x30])
    after s = { done s 0x0001 4 with regs := { s.regs with f := 0x40 }, unkCount := 1 } := by decide

/-- T-MS18 of 95. -/
theorem test_nop_MS18 :
    let s := start 0x0000 [0x00] { State.reset with r := 0x7F }
    after s = { done s 0x0001 4 with regs := { s.regs with f := 0x40 }, r := 0x00 } := by decide

/-- T-IX1 of 95. -/
theorem test_ldIxNn_IX1 :
    let s := start 0x0000 [0xDD, 0x21, 0x34, 0x12] State.reset
    after s = { done s 0x0004 14 with regs := { s.regs with f := 0x40 }, ix := 0x1234 } := by decide

/-- T-IX2 of 95. -/
theorem test_ldIyNn_IX2 :
    let s := start 0x0000 [0xFD, 0x21, 0x00, 0x80] State.reset
    after s = { done s 0x0004 14 with regs := { s.regs with f := 0x40 }, iy := 0x8000 } := by decide

/-- T-IX3 of 95. -/
theorem test_ldIndIxA_IX3 :
    let s := start 0x0000 [0xDD, 0x77, 0x05] { State.reset with regs := { State.reset.regs with a := 0x5A }, ix := 0x2000 }
    after s = ({ done s 0x0003 19 with regs := { s.regs with f := 0x40 } }).memWrite 0x2005 0x5A := by decide

/-- T-IX4 of 95. -/
theorem test_ldIndIyA_IX4 :
    let s := start 0x0000 [0xFD, 0x77, 0xFF] { State.reset with regs := { State.reset.regs with a := 0xA5 }, iy := 0x2000 }
    after s = ({ done s 0x0003 19 with regs := { s.regs with f := 0x40 } }).memWrite 0x1FFF 0xA5 := by decide

/-- T-IX5 of 95. -/
theorem test_ldIndIxA_IX5 :
    let s := start 0x0100 [0xDD, 0x77, 0x01] { State.reset with regs := { State.reset.regs with a := 0x77 } }
    after s = ({ done s 0x0103 19 with regs := { s.regs with f := 0x40 } }).memWrite 0x0000 0x77 := by decide

/-- T-IX7 of 95. -/
theorem test_subIndIx_IX7 :
    let s := start 0x0000 [0xDD, 0x96, 0x02] (State.storeBytes { State.reset with regs := { State.reset.regs with a := 0x10 }, ix := 0x2000 } 0x2002 [0x01])
    after s = { done s 0x0003 19 with regs := { s.regs with a := 0x0F, f := 0x12 } } := by decide

/-- T-IX8 of 95. -/
theorem test_subIndIy_IX8 :
    let s := start 0x0000 [0xFD, 0x96, 0xFE] (State.storeBytes { State.reset with regs := { State.reset.regs with a := 0x00 }, iy := 0x2000 } 0x1FFE [0x01])
    after s = { done s 0x0003 19 with regs := { s.regs with a := 0xFF, f := 0x93 } } := by decide

/-- T-IX9 of 95. -/
theorem test_subIndIy_IX9 :
    let s := start 0x0000 [0xFD, 0x96, 0x00] (State.storeBytes { State.reset with regs := { State.reset.regs with a := 0x33 }, iy := 0x3000 } 0x3000 [0x33])
    after s = { done s 0x0003 19 with regs := { s.regs with a := 0x00, f := 0x42 } } := by decide

/-- T-IX10 of 95. -/
theorem test_subIndIx_IX10 :
    let s := start 0x0000 [0xDD, 0x96, 0x00] { State.reset with regs := { State.reset.regs with a := 0x05 } }
    after s = { done s 0x0003 19 with regs := { s.regs with f := 0x02 } } := by decide

/-- T-IX11 of 95. -/
theorem test_bit7IndIx_IX11 :
    let s := start 0x0000 [0xDD, 0xCB, 0x03, 0x7E] (State.storeBytes { State.reset with regs := { State.reset.regs with f := 0x00 }, ix := 0x2000 } 0x2003 [0x80])
    after s = { done s 0x0004 20 with regs := { s.regs with f := 0x90 } } := by decide

/-- T-IX12 of 95. -/
theorem test_bit0IndIy_IX12 :
    let s := start 0x0000 [0xFD, 0xCB, 0xFD, 0x46] (State.storeBytes { State.reset with regs := { State.reset.regs with f := 0x03 }, iy := 0x2000 } 0x1FFD [0xFE])
    after s = { done s 0x0004 20 with regs := { s.regs with f := 0x53 } } := by decide

/-- T-IX13 of 95. -/
theorem test_bit4IndIx_IX13 :
    let s := start 0x0000 [0xDD, 0xCB, 0x00, 0x66] (State.storeBytes { State.reset with regs := { State.reset.regs with f := 0x00 }, ix := 0x2000 } 0x2000 [0x10])
    after s = { done s 0x0004 20 with regs := { s.regs with f := 0x10 } } := by decide

/-- T-IX14 of 95. -/
theorem test_bit7IndIx_IX14 :
    let s := start 0x0000 [0xDD, 0xCB, 0x00, 0x7E] (State.storeBytes { State.reset with regs := { State.reset.regs with f := 0x00 }, ix := 0x2000 } 0x2000 [0x7F])
    after s = { done s 0x0004 20 with regs := { s.regs with f := 0x50 } } := by decide

/-- T-IX15 of 95. -/
theorem test_unknown_IX15 :
    let s := start 0x0000 [0xDD, 0x7E, 0x00] (State.storeBytes { State.reset with ix := 0x2000 } 0x2000 [0x99])
    after s = { done s 0x0002 4 with regs := { s.regs with f := 0x40 }, unkCount := 1 } := by decide

/-- T-IX18 of 95. -/
theorem test_unknown_IX18 :
    let s := start 0x0000 [0xDD, 0xCB, 0x00, 0x47] (State.storeBytes { State.reset with ix := 0x2000 } 0x2000 [0x01])
    after s = { done s 0x0004 4 with regs := { s.regs with f := 0x40 }, unkCount := 1 } := by decide

/-! ### The engine and its host -/

/-- T-EN1 of 95. -/
theorem test_run_budget_0 : run 0 State.reset = .returned 0 .budgetExhausted (State.reset.beginRun.endRun .budgetExhausted) := by
  decide

/-- T-EN2 of 95. -/
theorem test_run_budget_1 :
    let s := start 0x0000 [0x3E, 0x05, 0x06, 0x03, 0x80, 0x76] State.reset
    run 1 s = .returned 7 .budgetExhausted
      (({ done s 0x0002 7 with regs := { s.regs with a := 0x05 } }).endRun .budgetExhausted) := by decide

/-- P8 of 95 under `PC_OVERFLOW = stop`: the `NOP` at 0xFFFF sets the bit, and the next iteration ends the run. -/
theorem test_pc_overflow_stop :
    let s := { State.resetWith { Config.default with pcOverflow := .stop } with pc := 0xFFFF }
    after s = { done s 0x0000 4 with pcLeftRange := true }
      ∧ after (after s) = (after s).endRun .addressOutOfRange := by decide

/-- 93 U1: an unlisted encoding under `UNLISTED_POLICY = refuse`. -/
theorem test_refuse_unlisted :
    (match step (start 0x0000 [0xCB, 0x20] (State.resetWith { Config.default with unlisted := .refuse })) with
      | .refused r => some r
      | .next _ => none
      | .fault _ => none) = some (.unlistedEncoding .cb) := by decide

/-- 43 R86: a member of `ROT_CARRY_UNTOUCHED` leaves C as it was. -/
theorem test_rot_carry_untouched :
    let s := start 0x0000 [0xCB, 0x0F] { State.resetWith { Config.default with rotCarryUntouched := [.rrc] } with
      regs := { RegSet.zero with a := 0x01, f := 0x00 } }
    (after s).regs = { s.regs with a := 0x80, f := 0x80 } := by decide

/-! ### Witnesses: for every statement with hypotheses, a concrete case that meets them all -/

/-- A machine in the middle of things: a program at 0x4000, data at 0x3000, all registers in use. -/
def busy (bytes : List Byte) : State :=
  start 0x4000 bytes (State.storeBytes
    { State.reset with
      regs := { a := 0x21, f := 0x93, b := 0x10, c := 0x20, d := 0x40, e := 0x50, h := 0x30, l := 0x00 }
      ix := 0x3005, iy := 0x2FFB, sp := 0x8000, r := 0x7F, cyc := 9, unkCount := 2, run := .inProgress }
    0x3000 [0x81])

/-- The same with `PC_OVERFLOW = stop` and the range bit set: the boundary guard fires. -/
def beyond : State :=
  { busy [0x00] with cfg := { Config.default with pcOverflow := .stop }, pcLeftRange := true }

/-- A step answers a next state. -/
def goesOn (s : State) : Bool :=
  match step s with
  | .next _ => true
  | .fault _ => false
  | .refused _ => false

theorem step_after {s : State} (h : goesOn s = true) : step s = .next (after s) := by
  unfold goesOn at h
  unfold after
  split at h
  · next t ht => simp only [ht]
  · cases h
  · cases h

theorem busy_inv (s : State) (h : s = busy [0x77]) : s.Inv := by
  subst h
  exact ⟨by decide, by decide, by decide, by decide, by decide, by decide, by decide⟩

theorem witness_StepKeepsTheInvariant : (busy [0x77]).Inv ∧ step (busy [0x77]) = .next (after (busy [0x77])) :=
  ⟨busy_inv _ rfl, step_after (by decide)⟩

theorem witness_HostMovesKeepTheInvariant :
    let s := { busy [0x77] with run := .returned .budgetExhausted }
    s.Inv ∧ hostMove s (.run 8) = some (.returned 11 .budgetExhausted, (run 8 s).reply.2) :=
  ⟨⟨by decide, by decide, by decide, by decide, by decide, by decide, by decide⟩, by decide⟩

theorem witness_DecodeOfEncodeIsTheInstruction :
    wellFormed (.jrE (-128)) = true ∧ wellFormed (.bit7IndIy 127) = true ∧ wellFormed (.ldIxNn 0xFFFF) = true := by
  decide

theorem witness_DecodedBytesBeginWithTheEncoding :
    decode 0xFD 0x96 0x80 0x00 = .instr (.subIndIy (-128)) ∧ decode 0xFF 0x00 0x00 0x00 = .unknown .u := by decide

theorem witness_StepRunsTheDecodedInstruction :
    let s := busy [0xDD, 0x77, 0xFB]
    s.guardFires = false ∧
      decode (s.memRead s.pc) (s.memRead (s.pc + 1)) (s.memRead (s.pc + 2)) (s.memRead (s.pc + 3)) =
        .instr (.ldIndIxA (-5)) := by decide

/-- An instruction that straddles the top of memory. -/
theorem witness_StepRunsTheInstructionEncodedAtPc :
    let s := start 0xFFFE [0xCD, 0x34, 0x12] State.reset
    s.guardFires = false ∧ wellFormed (.callNn 0x1234) = true ∧
      ∀ (k : Nat) (h : k < (encode (.callNn 0x1234)).length),
        s.memRead (s.pc + BitVec.ofNat 16 k) = (encode (.callNn 0x1234))[k] := by
  refine ⟨by decide, by decide, fun k h => ?_⟩
  match k, h with
  | 0, _ => rfl
  | 1, _ => rfl
  | 2, _ => rfl

theorem witness_StepRunsAPlacedTableWord :
    (busy [0x00]).mem.wf = true ∧ decodeTableWord 32 0xDDCB0246 = some (.bit0IndIx 2) := by decide

/-- One for each level. -/
theorem witness_UnknownOpcodeIsSkipped :
    let tests := [([0x08], Level.u), ([0xCB, 0x30], .cb), ([0xED, 0x44], .ed), ([0xDD, 0xDD], .xy),
      ([0xFD, 0xCB, 0x00, 0x47], .xycb)]
    (tests.all fun row => decide ((busy row.1).guardFires = false) &&
      decide ((busy row.1).cfg.unlisted = .unknownNop) &&
      decide ((busy row.1).fetchDecode = .unknown row.2)) = true := by decide

theorem witness_UnknownOpcodeIsRefusedUnderRefuse :
    let s := { busy [0x08] with cfg := { Config.default with unlisted := .refuse } }
    s.guardFires = false ∧ s.cfg.unlisted = .refuse ∧ s.fetchDecode = .unknown .u := by decide

theorem witness_BoundaryGuardEndsTheRun : beyond.guardFires = true ∧ (busy [0x00]).guardFires = false := by decide

theorem witness_WrapNeverLeavesTheRange :
    (busy [0x00]).cfg.pcOverflow = .wrap ∧ step (busy [0x00]) = .next (after (busy [0x00])) :=
  ⟨by decide, step_after (by decide)⟩

theorem witness_SequentialAdvanceAndTheRangeBit : ¬isTransfer .halt ∧ isTransfer (.jrE 0) :=
  ⟨by simp [isTransfer], .inr (.inl ⟨0, rfl⟩)⟩

theorem witness_EveryCostIsFourToTwenty :
    Config.default.costsBounded = true ∧
      ({ Config.default with cycLdIdxNn := 4, cycStIdxA := 20, cycSubIdx := 4 } : Config).costsBounded = true := by
  decide

theorem witness_HiddenRegistersInfluenceNothing :
    exec .scf (busy [0x37]) = .next (((busy [0x37]).setF (scfFlags 0x93)).retire 1 4) := exec_scf _

/-- With C set, and with C clear. -/
theorem witness_OnlyTheCarryFlagIsRead :
    (0x01 : Byte).getLsbD 0 = (busy []).regs.f.getLsbD 0 ∧
      (0xFE : Byte).getLsbD 0 = State.reset.regs.f.getLsbD 0 ∧
      exec .rlB (busy []) = .next (rotateReg .rl .b (busy [])) := ⟨by decide, by decide, exec_rotReg .rl .b _⟩

theorem witness_FlagsKeptOutsideTheFlagTable : ¬writesFlags .ret := by
  simp only [writesFlags, not_or, not_exists]
  refine ⟨?_, ?_, ?_, ?_, ?_, ?_, ?_, ?_, ?_, ?_, Instr.noConfusion⟩
  · intro q; cases q <;> exact Instr.noConfusion
  · intro q; cases q <;> exact Instr.noConfusion
  · intro x k; cases x <;> exact Instr.noConfusion
  · intro p; cases p <;> exact Instr.noConfusion
  · intro p; cases p <;> exact Instr.noConfusion
  · intro op q; cases op <;> cases q <;> exact Instr.noConfusion
  · intro op; cases op <;> exact Instr.noConfusion
  · intro n q; cases q <;> fin_cases n <;> exact Instr.noConfusion
  · intro n; fin_cases n <;> exact Instr.noConfusion
  · intro x n k; cases x <;> fin_cases n <;> exact Instr.noConfusion

theorem witness_MemoryKeptOutsideTheStores : ¬writesMemory .ret := by
  simp only [writesMemory, not_or, not_exists]
  refine ⟨Instr.noConfusion, Instr.noConfusion, ?_, ?_, fun _ => Instr.noConfusion, ?_⟩
  · intro q; cases q <;> exact Instr.noConfusion
  · intro x k; cases x <;> exact Instr.noConfusion
  · intro op; cases op <;> exact Instr.noConfusion

theorem witness_IndexRegistersWrittenByTheirLoadsAlone :
    exec (.ldIxNn 1) State.reset = .next (loadIndex .ix 1 State.reset) ∧ (loadIndex .ix 1 State.reset).ix ≠ 0xFFFF ∧
      exec (.ldIyNn 1) State.reset = .next (loadIndex .iy 1 State.reset) ∧ (loadIndex .iy 1 State.reset).iy ≠ 0xFFFF :=
  ⟨exec_ldIndex .ix 1 _, by decide, exec_ldIndex .iy 1 _, by decide⟩

theorem witness_StackPointerWrittenByThreeInstructions :
    (after (start 0 [0x31, 0x01, 0x00] State.reset)).sp ≠ 0 ∧ (after (start 0 [0xCD, 0x00, 0x10] State.reset)).sp ≠ 0 ∧
      (after (start 0 [0xC9] State.reset)).sp ≠ 0 := by decide

/-- The hypothesis of every statement about a store. -/
theorem witness_stores : (busy [0x77]).mem.wf = true ∧ State.reset.mem.wf = true := by decide

/-- One for each clause; the first four store into the bytes the next fetch reads, the fifth pushes over its own `CALL`, and
the last rotates its own first byte. -/
theorem witness_AStoreIsSeenByTheNextFetch :
    let viaBc := { start 0x101F [0x02] (busy []) with run := .notStarted }
    let viaDe := start 0x404F [0x12] (busy [])
    let viaHl := start 0x2FFF [0x77] (busy [])
    let indexed := start 0x2FFD [0xDD, 0x77, 0xFB] (busy [])
    let call := start 0x7FFE [0xCD, 0x00, 0x20] (busy [])
    let rotate := start 0x3000 [0xCB, 0x0E] (busy [])
    ([viaBc, viaDe, viaHl, indexed, call, rotate].all fun s => s.mem.wf && !s.guardFires) = true ∧
      (viaBc.fetchDecode = .instr .ldIndBcA ∧ viaBc.reg16 .bc = viaBc.pc + 1) ∧
      (viaDe.fetchDecode = .instr .ldIndDeA ∧ viaDe.reg16 .de = viaDe.pc + 1) ∧
      (viaHl.fetchDecode = .instr (.stHl .a) ∧ viaHl.reg16 .hl = viaHl.pc + 1) ∧
      (indexed.fetchDecode = .instr (.stIndex .ix (-5)) ∧ indexed.index .ix + BitVec.ofInt 16 (-5) = indexed.pc + 3) ∧
      (call.fetchDecode = .instr (.callNn 0x2000) ∧ call.sp - 2 = call.pc) ∧
      (rotate.fetchDecode = .instr (.rotHl .rrc) ∧ rotate.reg16 .hl = rotate.pc) := by decide

/-- With a `RET` at the target that the push leaves alone, for an ordinary `SP` and for `SP = 1`, which wraps. -/
theorem witness_CallThenReturnComesBack :
    let ordinary := start 0x4000 [0xCD, 0x00, 0x20] (State.storeBytes (busy []) 0x2000 [0xC9])
    let wrapped := { ordinary with sp := 0x0001 }
    (ordinary.mem.wf = true ∧ ordinary.guardFires = false ∧ ordinary.fetchDecode = .instr (.callNn 0x2000) ∧
        (after ordinary).memRead 0x2000 = 0xC9) ∧
      wrapped.mem.wf = true ∧ wrapped.guardFires = false ∧ wrapped.fetchDecode = .instr (.callNn 0x2000) ∧
        (after wrapped).memRead 0x2000 = 0xC9 := by decide

theorem witness_HaltAloneEndsTheRun :
    let s := busy [0x76]
    exec .halt s = .next ((s.retire 1 4).endRun .halt) ∧ ((s.retire 1 4).endRun .halt).run ≠ s.run :=
  ⟨exec_halt _, by decide⟩

/-- Each clause at its boundary: the budget met exactly, and one cycle short of it. -/
theorem witness_AnIterationChecksInOrder :
    (busy [0x76]).run = .inProgress ∧ (9 ≤ (busy [0x76]).cyc ∧ (busy [0x76]).cyc < 10) ∧
      (beyond.run = .inProgress ∧ beyond.cyc < 10 ∧ beyond.guardFires = true) ∧
      ((busy [0x76]).guardFires = false ∧ (busy [0x76]).fetchDecode = .instr .halt) ∧
      ((busy [0x08]).guardFires = false ∧ (busy [0x08]).fetchDecode = .unknown .u ∧
        (busy [0x08]).cfg.unlisted = .unknownNop) := by decide

/-- A run that its budget ends, one that `HALT` ends, and the full overshoot of 19 cycles. -/
theorem witness_RunOvershootsByAtMostOneInstruction :
    State.reset.cfg.runEntryCycles = 0 ∧ State.reset.cfg.costsBounded = true ∧
      (runWithin 2 1 (start 0 [0xDD, 0xCB, 0x00, 0x46] State.reset)).reply.1 = .returned 20 .budgetExhausted ∧
      (runWithin 1 9 (start 0 [0x76] State.reset)).reply.1 = .returned 4 .halt := by decide

theorem witness_RunReturnsWithinAQuarterOfItsBudget :
    State.reset.cfg.unlisted = .unknownNop ∧ State.reset.cfg.costsBounded = true ∧
      (runWithin ((9 + 3) / 4 + 1) 9 State.reset).reply.1 = .returned 12 .budgetExhausted := by decide

theorem witness_RunIsFollowedToItsEnd :
    State.reset.cfg.unlisted = .unknownNop ∧ State.reset.cfg.costsPositive = true ∧
      (runWithin 2 4 State.reset).reply.1 = .returned 4 .budgetExhausted := by decide

/-- A known instruction, and an unknown one. -/
theorem witness_RunWithBudgetOneIsASingleStep :
    let known := busy [0x76]
    let unknown := busy [0xFD, 0xCB, 0x00, 0x47]
    (known.cfg.runEntryCycles = 0 ∧ known.cfg.costsBounded = true ∧ known.guardFires = false ∧
        known.fetchDecode = .instr .halt) ∧
      unknown.cfg.runEntryCycles = 0 ∧ unknown.guardFires = false ∧ unknown.cfg.unlisted = .unknownNop ∧
        unknown.fetchDecode = .unknown .xycb := by decide

/-- The longest image that is accepted and the shortest that is not. -/
theorem witness_LoaderCopiesTheImage :
    (busy []).mem.wf = true ∧ (List.replicate 65536 (0x76 : Byte)).length ≤ 65536 ∧
      65536 < (List.replicate 65537 (0x76 : Byte)).length :=
  ⟨by decide, by rw [List.length_replicate], by rw [List.length_replicate]; omega⟩

theorem witness_HostMovesFollowTheTable :
    (busy []).run = .inProgress ∧ State.reset.run = .notStarted ∧ State.reset.run ≠ .inProgress ∧
      (State.reset.endRun .halt).run = .returned .halt := by decide
end Sys2Proof.Tests
end

/-! PROOFS. What a step answers on an unknown opcode (46 R121, 93 U1). -/

namespace Sys2Proof.Machine

@[simp] theorem State.fetched_cfg (s : State) : s.fetched.cfg = s.cfg := by
  simp [State.fetched]

/-- Where the guard does not fire, bytes that no row lists raise the condition of their level. -/
theorem step_eq_raiseUnknownOpcode {s : State} {lv : Level} (hguard : s.guardFires = false)
    (hdecode : s.fetchDecode = .unknown lv) : step s = raiseUnknownOpcode lv s.fetched := by
  rcases step_cases s with ⟨hfires, -⟩ | ⟨-, i, hinstr, -⟩ | ⟨-, lv', hunknown, hstep⟩
  · rw [hguard] at hfires
    contradiction
  · rw [hdecode] at hinstr
    contradiction
  · obtain rfl : lv = lv' := Decoded.unknown.inj (hdecode.symm.trans hunknown)
    exact hstep

/-- Settles O13: the step raises the condition, and `refuse` gives it no meaning. -/
theorem unknownOpcodeIsRefusedUnderRefuse : Obligations.UnknownOpcodeIsRefusedUnderRefuse := by
  intro s lv hguard hrefuse hdecode
  rw [step_eq_raiseUnknownOpcode hguard hdecode]
  exact raiseUnknownOpcode_refuse lv (by rw [State.fetched_cfg, hrefuse])

end Sys2Proof.Machine

/-! PROOFS. What an instruction adds to the cycle total: the cost of each instruction body, and that every instruction
charges one of the costs in the table of 70 R177. -/

namespace Sys2Proof.Machine

section BodyCosts
variable (s : State)

@[simp] theorem loadReg_cyc (q : Reg8) (n : Byte) : (loadReg q n s).cyc = s.cyc + 7 := rfl
@[simp] theorem loadPair_cyc (p : Reg16) (nn : Word) : (loadPair p nn s).cyc = s.cyc + 10 := by simp [loadPair]
@[simp] theorem storeVia_cyc (o : MemOperand) (q : Reg8) : (storeVia o q s).cyc = s.cyc + 7 := rfl
@[simp] theorem addReg_cyc (q : Reg8) : (addReg q s).cyc = s.cyc + 4 := rfl
@[simp] theorem subReg_cyc (q : Reg8) : (subReg q s).cyc = s.cyc + 4 := rfl
@[simp] theorem adcPair_cyc (p : Reg16) : (adcPair p s).cyc = s.cyc + 15 := rfl
@[simp] theorem sbcPair_cyc (p : Reg16) : (sbcPair p s).cyc = s.cyc + 15 := rfl
@[simp] theorem rotateReg_cyc (op : RotOp) (q : Reg8) : (rotateReg op q s).cyc = s.cyc + 8 := rfl
@[simp] theorem rotateHl_cyc (op : RotOp) : (rotateHl op s).cyc = s.cyc + 12 := rfl
@[simp] theorem testReg_cyc (b : Fin 8) (q : Reg8) : (testReg b q s).cyc = s.cyc + 12 := rfl
@[simp] theorem testMem_cyc (b : Fin 8) (o : MemOperand) (len cost : Nat) :
    (testMem b o len cost s).cyc = s.cyc + cost := rfl
@[simp] theorem loadIndex_cyc (x : IndexReg) (nn : Word) : (loadIndex x nn s).cyc = s.cyc + s.cfg.cycLdIdxNn := by
  simp [loadIndex]
@[simp] theorem storeIndexed_cyc (x : IndexReg) (d : Int) : (storeIndexed x d s).cyc = s.cyc + s.cfg.cycStIdxA := rfl
@[simp] theorem subIndexed_cyc (x : IndexReg) (d : Int) : (subIndexed x d s).cyc = s.cyc + s.cfg.cycSubIdx := rfl

end BodyCosts

/-- What an instruction may cost: a fixed cost of the table of 70 R177, or one of its three open costs. -/
inductive InstrCost (c : Config) : Nat → Prop where
  | fixed {n : Nat} (h : n ∈ [4, 7, 8, 10, 12, 15, 17, 20]) : InstrCost c n
  | ldIdxNn : InstrCost c c.cycLdIdxNn
  | stIdxA : InstrCost c c.cycStIdxA
  | subIdx : InstrCost c c.cycSubIdx

/-- Every instruction completes and charges one of the costs of the table. -/
theorem exec_charges_instrCost (i : Instr) (s : State) :
    ∃ t n, exec i s = .next t ∧ t.cyc = s.cyc + n ∧ InstrCost s.cfg n := by
  induction i using byForm with
  | hNop => exact ⟨_, 4, exec_nop s, rfl, .fixed (by decide)⟩
  | hHalt => exact ⟨_, 4, exec_halt s, rfl, .fixed (by decide)⟩
  | hScf => exact ⟨_, 4, exec_scf s, rfl, .fixed (by decide)⟩
  | hJpNn nn => exact ⟨_, 10, exec_jpNn nn s, rfl, .fixed (by decide)⟩
  | hJrE e => exact ⟨_, 12, exec_jrE e s, rfl, .fixed (by decide)⟩
  | hCallNn nn => exact ⟨_, 17, exec_callNn nn s, rfl, .fixed (by decide)⟩
  | hRet => exact ⟨_, 10, exec_ret s, rfl, .fixed (by decide)⟩
  | hLdReg q n => exact ⟨_, 7, exec_ldReg q n s, loadReg_cyc s q n, .fixed (by decide)⟩
  | hLdPair p nn => exact ⟨_, 10, exec_ldPair p nn s, loadPair_cyc s p nn, .fixed (by decide)⟩
  | hLdIndBcA => exact ⟨_, 7, exec_ldIndBcA s, storeVia_cyc s .bc .a, .fixed (by decide)⟩
  | hLdIndDeA => exact ⟨_, 7, exec_ldIndDeA s, storeVia_cyc s .de .a, .fixed (by decide)⟩
  | hStHl q => exact ⟨_, 7, exec_stHl q s, storeVia_cyc s .hl q, .fixed (by decide)⟩
  | hAdd q => exact ⟨_, 4, exec_add q s, addReg_cyc s q, .fixed (by decide)⟩
  | hSub q => exact ⟨_, 4, exec_sub q s, subReg_cyc s q, .fixed (by decide)⟩
  | hAdc p => exact ⟨_, 15, exec_adc p s, adcPair_cyc s p, .fixed (by decide)⟩
  | hSbc p => exact ⟨_, 15, exec_sbc p s, sbcPair_cyc s p, .fixed (by decide)⟩
  | hRotReg op q => exact ⟨_, 8, exec_rotReg op q s, rotateReg_cyc s op q, .fixed (by decide)⟩
  | hRotHl op => exact ⟨_, 12, exec_rotHl op s, rotateHl_cyc s op, .fixed (by decide)⟩
  | hBitReg b q => exact ⟨_, 12, exec_bitReg b q s, testReg_cyc s b q, .fixed (by decide)⟩
  | hBitHl b => exact ⟨_, 12, exec_bitHl b s, testMem_cyc s b .hl 2 12, .fixed (by decide)⟩
  | hLdIndex x nn => exact ⟨_, _, exec_ldIndex x nn s, loadIndex_cyc s x nn, .ldIdxNn⟩
  | hStIndex x d => exact ⟨_, _, exec_stIndex x d s, storeIndexed_cyc s x d, .stIdxA⟩
  | hSubIndex x d => exact ⟨_, _, exec_subIndex x d s, subIndexed_cyc s x d, .subIdx⟩
  | hBitIndex x b d => exact ⟨_, 20, exec_bitIndex x b d s, testMem_cyc s b (.indexed x d) 4 20, .fixed (by decide)⟩

/-- The fixed costs run from 4 to 20, and so do the open ones where the parameters are so bounded. -/
theorem InstrCost.bounds {c : Config} {n : Nat} (hcost : InstrCost c n) (hbounded : c.costsBounded = true) :
    4 ≤ n ∧ n ≤ 20 := by
  simp only [Config.costsBounded, Bool.and_eq_true, decide_eq_true_eq] at hbounded
  cases hcost with
  | fixed hmem =>
    have hfixed : ∀ m ∈ [4, 7, 8, 10, 12, 15, 17, 20], 4 ≤ m ∧ m ≤ 20 := by decide
    exact hfixed n hmem
  | ldIdxNn => omega
  | stIdxA => omega
  | subIdx => omega

/-- Settles O18: every instruction charges a cost of the table, and each of those is bounded. -/
theorem everyCostIsFourToTwenty : Obligations.EveryCostIsFourToTwenty := by
  intro i s hbounded
  obtain ⟨t, n, hexec, hcyc, hcost⟩ := exec_charges_instrCost i s
  have ⟨hlower, hupper⟩ := hcost.bounds hbounded
  exact ⟨t, hexec, by omega, by omega⟩

end Sys2Proof.Machine

/-! PROOFS. The state at reset, and the flags after a bit test (10 R20, R28). -/

namespace Sys2Proof.Machine

/-- Settles O2: no clause of the invariant looks at the parameters but the range bit's, and that bit is clear at reset. -/
theorem resetMeetsTheInvariant : Obligations.ResetMeetsTheInvariant := fun _ =>
  { memory := rfl
    refresh := Nat.le_of_ble_eq_true rfl
    flags := show unnamedClear 0x40 = true by decide
    shadow := rfl
    vector := rfl
    latch := rfl
    range := fun _ => rfl }

/-- Settles O39: each clause is `bitf_getLsbD` at its bits. -/
theorem bitTestFlags : Obligations.BitTestFlags := by
  intro f v b
  refine ⟨?zero, ?half, ?sign, ?kept⟩
  case zero => rw [bitf_getLsbD, if_neg (by decide), if_pos rfl, Bool.not_eq_true']
  case half => rw [bitf_getLsbD, if_neg (by decide), if_neg (by decide), if_pos rfl]
  case sign => rw [bitf_getLsbD, if_pos rfl, Bool.and_eq_true, decide_eq_true_eq]
  case kept =>
    intro k h7 h6 h4
    rw [bitf_getLsbD, if_neg h7, if_neg h6, if_neg h4]

end Sys2Proof.Machine

/-! PROOFS. How an instruction moves `PC` (10 R16, 50 R140): what is no control transfer passes its own encoding, and a
control transfer leaves the range bit alone. -/

namespace Sys2Proof.Machine

/-- The range bit after an advance (50 R140). -/
theorem State.leavesRange_iff (s : State) (len : Nat) :
    s.leavesRange len = true ↔ s.pcLeftRange = true ∨ (s.cfg.pcOverflow = .stop ∧ 65535 < s.pc.toNat + len) := by
  simp [State.leavesRange]

/-- An advance sets the range bit from `PC`, the bit and the parameters alone. -/
theorem State.leavesRange_congr {s u : State} (len : Nat) (hpc : u.pc = s.pc) (hrange : u.pcLeftRange = s.pcLeftRange)
    (hcfg : u.cfg = s.cfg) : u.leavesRange len = s.leavesRange len := by
  rw [State.leavesRange, State.leavesRange, hpc, hrange, hcfg]

/-- The four control transfers, as a test. -/
def transfers (i : Instr) : Bool :=
  match i with
  | .jpNn _ | .jrE _ | .callNn _ | .ret => true
  | _ => false

theorem transfers_iff_isTransfer (i : Instr) : transfers i = true ↔ isTransfer i := by
  constructor
  · intro htransfers
    cases i with
    | jpNn nn => exact .inl ⟨nn, rfl⟩
    | jrE e => exact .inr (.inl ⟨e, rfl⟩)
    | callNn nn => exact .inr (.inr (.inl ⟨nn, rfl⟩))
    | ret => exact .inr (.inr (.inr rfl))
    | _ => contradiction
  · rintro (⟨nn, rfl⟩ | ⟨e, rfl⟩ | ⟨nn, rfl⟩ | rfl) <;> rfl

/-- The length of an instruction that advances `PC`; none for the four transfers. -/
def sequentialLength (i : Instr) : Option Nat := if transfers i then none else some (encode i).length

theorem sequentialLength_eq_none_iff (i : Instr) : sequentialLength i = none ↔ isTransfer i := by
  simp [sequentialLength, transfers_iff_isTransfer]

theorem sequentialLength_eq_some_iff (i : Instr) (len : Nat) :
    sequentialLength i = some len ↔ ¬ isTransfer i ∧ (encode i).length = len := by
  simp [sequentialLength, transfers_iff_isTransfer]

/-- The two ways an instruction that leads from `s` to `t` moves `PC`. -/
inductive PcMove (i : Instr) (s t : State) : Prop where
  | advanced (len : Nat) (hlen : sequentialLength i = some len) (hpc : t.pc = s.pc + BitVec.ofNat 16 len)
      (hrange : t.pcLeftRange = s.leavesRange len)
  | transferred (hnone : sequentialLength i = none) (hrange : t.pcLeftRange = s.pcLeftRange)

/-- The advance that ends an instruction body whose earlier actions leave `PC`, the range bit and the parameters alone. -/
theorem PcMove.of_retire {i : Instr} {s : State} (u : State) (len cost : Nat) (hlen : sequentialLength i = some len)
    (hpc : u.pc = s.pc) (hrange : u.pcLeftRange = s.pcLeftRange) (hcfg : u.cfg = s.cfg) :
    PcMove i s (u.retire len cost) :=
  .advanced len hlen (by rw [State.retire_pc, hpc]) (State.leavesRange_congr len hpc hrange hcfg)

/-- Every instruction completes, and moves `PC` in one of the two ways. -/
theorem exec_moves_pc (i : Instr) (s : State) : ∃ t, exec i s = .next t ∧ PcMove i s t := by
  induction i using byForm with
  | hNop => exact ⟨_, exec_nop s, .advanced 1 rfl rfl rfl⟩
  | hHalt => exact ⟨_, exec_halt s, .advanced 1 rfl rfl rfl⟩
  | hScf => exact ⟨_, exec_scf s, .advanced 1 rfl rfl rfl⟩
  | hJpNn nn => exact ⟨_, exec_jpNn nn s, .transferred rfl rfl⟩
  | hJrE e => exact ⟨_, exec_jrE e s, .transferred rfl rfl⟩
  | hCallNn nn => exact ⟨_, exec_callNn nn s, .transferred rfl rfl⟩
  | hRet => exact ⟨_, exec_ret s, .transferred rfl rfl⟩
  | hLdReg q n => exact ⟨_, exec_ldReg q n s, .advanced 2 (by cases q <;> rfl) rfl rfl⟩
  | hLdPair p nn =>
    refine ⟨_, exec_ldPair p nn s, .of_retire (s.setReg16 p nn) 3 10 (by cases p <;> rfl) ?_ ?_ ?_⟩ <;> simp
  | hLdIndBcA => exact ⟨_, exec_ldIndBcA s, .advanced 1 rfl rfl rfl⟩
  | hLdIndDeA => exact ⟨_, exec_ldIndDeA s, .advanced 1 rfl rfl rfl⟩
  | hStHl q => exact ⟨_, exec_stHl q s, .advanced 1 (by cases q <;> rfl) rfl rfl⟩
  | hAdd q => exact ⟨_, exec_add q s, .advanced 1 (by cases q <;> rfl) rfl rfl⟩
  | hSub q => exact ⟨_, exec_sub q s, .advanced 1 (by cases q <;> rfl) rfl rfl⟩
  | hAdc p => exact ⟨_, exec_adc p s, .advanced 2 (by cases p <;> rfl) rfl rfl⟩
  | hSbc p => exact ⟨_, exec_sbc p s, .advanced 2 (by cases p <;> rfl) rfl rfl⟩
  | hRotReg op q => exact ⟨_, exec_rotReg op q s, .advanced 2 (by cases op <;> cases q <;> rfl) rfl rfl⟩
  | hRotHl op => exact ⟨_, exec_rotHl op s, .advanced 2 (by cases op <;> rfl) rfl rfl⟩
  | hBitReg b q => exact ⟨_, exec_bitReg b q s, .advanced 2 (by cases q <;> fin_cases b <;> rfl) rfl rfl⟩
  | hBitHl b => exact ⟨_, exec_bitHl b s, .advanced 2 (by fin_cases b <;> rfl) rfl rfl⟩
  | hLdIndex x nn =>
    refine ⟨_, exec_ldIndex x nn s, .of_retire (s.setIndex x nn) 4 _ (by cases x <;> rfl) ?_ ?_ ?_⟩ <;> simp
  | hStIndex x d => exact ⟨_, exec_stIndex x d s, .advanced 3 (by cases x <;> rfl) rfl rfl⟩
  | hSubIndex x d => exact ⟨_, exec_subIndex x d s, .advanced 3 (by cases x <;> rfl) rfl rfl⟩
  | hBitIndex x b d => exact ⟨_, exec_bitIndex x b d s, .advanced 4 (by cases x <;> fin_cases b <;> rfl) rfl rfl⟩

/-- Settles O17, from the two ways an instruction moves `PC`. -/
theorem sequentialAdvanceAndTheRangeBit : Obligations.SequentialAdvanceAndTheRangeBit := by
  intro i s
  obtain ⟨t, hexec, hmove⟩ := exec_moves_pc i s
  refine ⟨t, hexec, ?_⟩
  cases hmove with
  | advanced len hlen hpc hrange =>
    obtain ⟨hsequential, rfl⟩ := (sequentialLength_eq_some_iff i len).mp hlen
    rw [hrange, State.leavesRange_iff]
    exact ⟨fun _ => ⟨hpc, Iff.rfl⟩, fun htransfer => absurd htransfer hsequential⟩
  | transferred hnone hrange =>
    have htransfer := (sequentialLength_eq_none_iff i).mp hnone
    exact ⟨fun hsequential => absurd htransfer hsequential, fun _ => hrange⟩

end Sys2Proof.Machine

/-! PROOFS. Who writes the 16-bit registers `IX`, `IY` and `SP` (10 R13, R14): their loads, and `CALL` and `RET` for
`SP`. -/

namespace Sys2Proof.Machine

/-- `exec` is a function: one answer for one instruction in one state. -/
theorem exec_next_unique {i : Instr} {s t u : State} (ht : exec i s = .next t) (hu : exec i s = .next u) : t = u :=
  Host.Outcome.next.inj (ht.symm.trans hu)

/-- The instructions that write `SP` (10 R14). -/
def writesSp (i : Instr) : Prop := (∃ nn, i = .ldSpNn nn) ∨ (∃ nn, i = .callNn nn) ∨ i = .ret

/-- What an instruction that leads from `s` to `t` may do to `IX`, `IY` and `SP`: write one of them at most. -/
inductive WideWrite (i : Instr) (s t : State) : Prop where
  | none (hix : t.ix = s.ix) (hiy : t.iy = s.iy) (hsp : t.sp = s.sp)
  | ix (hload : ∃ nn, i = .ldIxNn nn) (hiy : t.iy = s.iy) (hsp : t.sp = s.sp)
  | iy (hload : ∃ nn, i = .ldIyNn nn) (hix : t.ix = s.ix) (hsp : t.sp = s.sp)
  | sp (hwrites : writesSp i) (hix : t.ix = s.ix) (hiy : t.iy = s.iy)

/-- Every instruction completes, and writes one of `IX`, `IY` and `SP` at most. -/
theorem exec_writes_wide (i : Instr) (s : State) : ∃ t, exec i s = .next t ∧ WideWrite i s t := by
  induction i using byForm with
  | hNop => exact ⟨_, exec_nop s, .none rfl rfl rfl⟩
  | hHalt => exact ⟨_, exec_halt s, .none rfl rfl rfl⟩
  | hScf => exact ⟨_, exec_scf s, .none rfl rfl rfl⟩
  | hJpNn nn => exact ⟨_, exec_jpNn nn s, .none rfl rfl rfl⟩
  | hJrE e => exact ⟨_, exec_jrE e s, .none rfl rfl rfl⟩
  | hCallNn nn => exact ⟨_, exec_callNn nn s, .sp (.inr (.inl ⟨nn, rfl⟩)) rfl rfl⟩
  | hRet => exact ⟨_, exec_ret s, .sp (.inr (.inr rfl)) rfl rfl⟩
  | hLdReg q n => exact ⟨_, exec_ldReg q n s, .none rfl rfl rfl⟩
  | hLdPair p nn =>
    refine ⟨_, exec_ldPair p nn s, ?_⟩
    cases p with
    | bc => exact .none rfl rfl rfl
    | de => exact .none rfl rfl rfl
    | hl => exact .none rfl rfl rfl
    | sp => exact .sp (.inl ⟨nn, rfl⟩) rfl rfl
  | hLdIndBcA => exact ⟨_, exec_ldIndBcA s, .none rfl rfl rfl⟩
  | hLdIndDeA => exact ⟨_, exec_ldIndDeA s, .none rfl rfl rfl⟩
  | hStHl q => exact ⟨_, exec_stHl q s, .none rfl rfl rfl⟩
  | hAdd q => exact ⟨_, exec_add q s, .none rfl rfl rfl⟩
  | hSub q => exact ⟨_, exec_sub q s, .none rfl rfl rfl⟩
  | hAdc p => exact ⟨_, exec_adc p s, .none rfl rfl rfl⟩
  | hSbc p => exact ⟨_, exec_sbc p s, .none rfl rfl rfl⟩
  | hRotReg op q => exact ⟨_, exec_rotReg op q s, .none rfl rfl rfl⟩
  | hRotHl op => exact ⟨_, exec_rotHl op s, .none rfl rfl rfl⟩
  | hBitReg b q => exact ⟨_, exec_bitReg b q s, .none rfl rfl rfl⟩
  | hBitHl b => exact ⟨_, exec_bitHl b s, .none rfl rfl rfl⟩
  | hLdIndex x nn =>
    refine ⟨_, exec_ldIndex x nn s, ?_⟩
    cases x with
    | ix => exact .ix ⟨nn, rfl⟩ rfl rfl
    | iy => exact .iy ⟨nn, rfl⟩ rfl rfl
  | hStIndex x d => exact ⟨_, exec_stIndex x d s, .none rfl rfl rfl⟩
  | hSubIndex x d => exact ⟨_, exec_subIndex x d s, .none rfl rfl rfl⟩
  | hBitIndex x b d => exact ⟨_, exec_bitIndex x b d s, .none rfl rfl rfl⟩

theorem wideWrite_of_exec {i : Instr} {s t : State} (hexec : exec i s = .next t) : WideWrite i s t := by
  obtain ⟨u, hu, hwide⟩ := exec_writes_wide i s
  rwa [exec_next_unique hexec hu]

/-- Settles O24: where `IX` or `IY` differs, the write of the three registers is its load. -/
theorem indexRegistersWrittenByTheirLoadsAlone : Obligations.IndexRegistersWrittenByTheirLoadsAlone := by
  intro i s t hexec
  cases wideWrite_of_exec hexec with
  | none hix hiy _ => exact ⟨fun h => absurd hix h, fun h => absurd hiy h⟩
  | ix hload hiy _ => exact ⟨fun _ => hload, fun h => absurd hiy h⟩
  | iy hload hix _ => exact ⟨fun h => absurd hix h, fun _ => hload⟩
  | sp _ hix hiy => exact ⟨fun h => absurd hix h, fun h => absurd hiy h⟩

/-- Settles O25: where `SP` differs, the write of the three registers is one of its three. -/
theorem stackPointerWrittenByThreeInstructions : Obligations.StackPointerWrittenByThreeInstructions := by
  intro i s t hexec hdiffers
  cases wideWrite_of_exec hexec with
  | none _ _ hsp => exact absurd hsp hdiffers
  | ix _ _ hsp => exact absurd hsp hdiffers
  | iy _ _ hsp => exact absurd hsp hdiffers
  | sp hwrites _ _ => exact hwrites

end Sys2Proof.Machine

/-! PROOFS. The flags byte (10 R18): who writes it, and that a new flag comes from no old flag but C. A state with another
flags byte is `s.setF f`; each instruction body keeps that byte, or overwrites it having read C at most, or computes some
bits and keeps the others. -/

namespace Sys2Proof.Machine

@[simp] theorem loadIndex_f (x : IndexReg) (nn : Word) (s : State) : (loadIndex x nn s).regs.f = s.regs.f := by
  simp [loadIndex]

/-- An instruction of the flag table writes the flags byte, and every other one keeps it. -/
theorem exec_writesFlags_or_keeps (i : Instr) (s : State) :
    ∃ t, exec i s = .next t ∧ (writesFlags i ∨ t.regs.f = s.regs.f) := by
  induction i using byForm with
  | hNop => exact ⟨_, exec_nop s, .inr rfl⟩
  | hHalt => exact ⟨_, exec_halt s, .inr rfl⟩
  | hScf => exact ⟨_, exec_scf s, .inl (by simp [writesFlags])⟩
  | hJpNn nn => exact ⟨_, exec_jpNn nn s, .inr rfl⟩
  | hJrE e => exact ⟨_, exec_jrE e s, .inr rfl⟩
  | hCallNn nn => exact ⟨_, exec_callNn nn s, .inr rfl⟩
  | hRet => exact ⟨_, exec_ret s, .inr rfl⟩
  | hLdReg q n => exact ⟨_, exec_ldReg q n s, .inr (s.regs.set_f q n)⟩
  | hLdPair p nn => exact ⟨_, exec_ldPair p nn s, .inr (s.setReg16_f p nn)⟩
  | hLdIndBcA => exact ⟨_, exec_ldIndBcA s, .inr rfl⟩
  | hLdIndDeA => exact ⟨_, exec_ldIndDeA s, .inr rfl⟩
  | hStHl q => exact ⟨_, exec_stHl q s, .inr rfl⟩
  | hAdd q => exact ⟨_, exec_add q s, .inl (by simp [writesFlags])⟩
  | hSub q => exact ⟨_, exec_sub q s, .inl (by simp [writesFlags])⟩
  | hAdc p => exact ⟨_, exec_adc p s, .inl (by simp [writesFlags])⟩
  | hSbc p => exact ⟨_, exec_sbc p s, .inl (by simp [writesFlags])⟩
  | hRotReg op q => exact ⟨_, exec_rotReg op q s, .inl (by simp [writesFlags])⟩
  | hRotHl op => exact ⟨_, exec_rotHl op s, .inl (by simp [writesFlags])⟩
  | hBitReg b q => exact ⟨_, exec_bitReg b q s, .inl (by simp [writesFlags])⟩
  | hBitHl b => exact ⟨_, exec_bitHl b s, .inl (by simp [writesFlags])⟩
  | hLdIndex x nn => exact ⟨_, exec_ldIndex x nn s, .inr (loadIndex_f x nn s)⟩
  | hStIndex x d => exact ⟨_, exec_stIndex x d s, .inr rfl⟩
  | hSubIndex x d => exact ⟨_, exec_subIndex x d s, .inl (by simp [writesFlags])⟩
  | hBitIndex x b d => exact ⟨_, exec_bitIndex x b d s, .inl (by simp [writesFlags])⟩

/-- Settles O22: outside the flag table the byte is kept. -/
theorem flagsKeptOutsideTheFlagTable : Obligations.FlagsKeptOutsideTheFlagTable := by
  intro i s
  obtain ⟨t, hexec, hflags⟩ := exec_writesFlags_or_keeps i s
  exact ⟨t, hexec, hflags.resolve_left⟩

section SetF
variable (s : State) (f : Byte)

/-! ### Reads from a state with another flags byte -/

@[simp] theorem State.setF_reg8 (q : Reg8) : (s.setF f).reg8 q = s.reg8 q := s.regs.get_with_f q f
@[simp] theorem State.setF_hl : (s.setF f).hl = s.hl := rfl
@[simp] theorem State.setF_reg16 (p : Reg16) : (s.setF f).reg16 p = s.reg16 p := by cases p <;> rfl
@[simp] theorem State.setF_address (o : MemOperand) : (s.setF f).address o = s.address o := by cases o <;> rfl
@[simp] theorem State.setF_memRead (a : Word) : (s.setF f).memRead a = s.memRead a := rfl
@[simp] theorem State.setF_readOperand (o : MemOperand) : (s.setF f).readOperand o = s.readOperand o := by
  simp [State.readOperand]

/-! ### Updates of a state with another flags byte -/

@[simp] theorem State.setF_setF (g : Byte) : (s.setF f).setF g = s.setF g := rfl
@[simp] theorem State.setF_setReg8 (q : Reg8) (v : Byte) : (s.setF f).setReg8 q v = (s.setReg8 q v).setF f := by
  cases q <;> rfl
@[simp] theorem State.setF_setReg16 (p : Reg16) (w : Word) : (s.setF f).setReg16 p w = (s.setReg16 p w).setF f := by
  cases p <;> rfl
@[simp] theorem State.setF_setIndex (x : IndexReg) (w : Word) : (s.setF f).setIndex x w = (s.setIndex x w).setF f := by
  cases x <;> rfl
@[simp] theorem State.setF_setAF (rf : Byte × Byte) : (s.setF f).setAF rf = s.setAF rf := rfl
@[simp] theorem State.setF_setHLF (rf : Word × Byte) : (s.setF f).setHLF rf = s.setHLF rf := rfl
@[simp] theorem State.setF_writeOperand (o : MemOperand) (v : Byte) :
    (s.setF f).writeOperand o v = (s.writeOperand o v).setF f := by
  cases o <;> rfl
@[simp] theorem State.setF_retire (len cost : Nat) : (s.setF f).retire len cost = (s.retire len cost).setF f := rfl

/-! ### Bodies that keep the flags byte -/

theorem loadReg_setF (q : Reg8) (n : Byte) : loadReg q n (s.setF f) = (loadReg q n s).setF f := by simp [loadReg]
theorem loadPair_setF (p : Reg16) (nn : Word) : loadPair p nn (s.setF f) = (loadPair p nn s).setF f := by
  simp [loadPair]
theorem storeVia_setF (o : MemOperand) (q : Reg8) : storeVia o q (s.setF f) = (storeVia o q s).setF f := by
  simp [storeVia]
theorem loadIndex_setF (x : IndexReg) (nn : Word) : loadIndex x nn (s.setF f) = (loadIndex x nn s).setF f := by
  simp [loadIndex]
theorem storeIndexed_setF (x : IndexReg) (d : Int) : storeIndexed x d (s.setF f) = (storeIndexed x d s).setF f := by
  simp [storeIndexed]

/-! ### Bodies of the bit tests, which compute some bits and keep the others -/

theorem testReg_setF (b : Fin 8) (q : Reg8) :
    testReg b q (s.setF f) = (testReg b q s).setF (bitf f (s.reg8 q) b) := by
  simp [testReg]
theorem testMem_setF (b : Fin 8) (o : MemOperand) (len cost : Nat) :
    testMem b o len cost (s.setF f) = (testMem b o len cost s).setF (bitf f (s.readOperand o) b) := by
  simp [testMem]

/-! ### Bodies that overwrite it: from the operands, or from the operands and C -/

theorem addReg_setF (q : Reg8) : addReg q (s.setF f) = addReg q s := by simp [addReg]
theorem subReg_setF (q : Reg8) : subReg q (s.setF f) = subReg q s := by simp [subReg]
theorem subIndexed_setF (x : IndexReg) (d : Int) : subIndexed x d (s.setF f) = subIndexed x d s := by simp [subIndexed]

variable {s f} (hcarry : (s.setF f).carry = s.carry)
include hcarry

theorem adcPair_setF (p : Reg16) : adcPair p (s.setF f) = adcPair p s := by simp [adcPair, hcarry]
theorem sbcPair_setF (p : Reg16) : sbcPair p (s.setF f) = sbcPair p s := by simp [sbcPair, hcarry]
theorem rotatedFlags_setF (op : RotOp) (v : Byte) : (s.setF f).rotatedFlags op v = s.rotatedFlags op v := by
  simp [State.rotatedFlags, hcarry]
theorem rotateReg_setF (op : RotOp) (q : Reg8) : rotateReg op q (s.setF f) = rotateReg op q s := by
  simp [rotateReg, hcarry, rotatedFlags_setF hcarry]
theorem rotateHl_setF (op : RotOp) : rotateHl op (s.setF f) = rotateHl op s := by
  simp [rotateHl, hcarry, rotatedFlags_setF hcarry]

end SetF

/-- Two executions of an instruction find the flags bytes `f` and `g` and leave `f'` and `g'`: C comes out the same, and
every other bit the same or as it was found. -/
structure CarryAloneRead (f g f' g' : Byte) : Prop where
  carry : f'.getLsbD 0 = g'.getLsbD 0
  bits : ∀ k, f'.getLsbD k = g'.getLsbD k ∨ (g'.getLsbD k = g.getLsbD k ∧ f'.getLsbD k = f.getLsbD k)

namespace CarryAloneRead
variable {f g : Byte}

theorem kept (hcarry : f.getLsbD 0 = g.getLsbD 0) : CarryAloneRead f g f g := ⟨hcarry, fun _ => .inr ⟨rfl, rfl⟩⟩

theorem overwritten (f g new : Byte) : CarryAloneRead f g new new := ⟨rfl, fun _ => .inl rfl⟩

/-- A bit test computes bits 7, 6 and 4 and keeps the others (10 R20). -/
theorem of_bitf (hcarry : f.getLsbD 0 = g.getLsbD 0) (v : Byte) (b : Fin 8) :
    CarryAloneRead f g (bitf f v b) (bitf g v b) where
  carry := by rw [bitf_getLsbD, bitf_getLsbD]; exact hcarry
  bits k := by
    simp only [bitf_getLsbD]
    split_ifs
    case neg => exact .inr ⟨rfl, rfl⟩
    all_goals exact .inl rfl

/-- `SCF` computes bits 4, 1 and 0 and keeps the others (46 R117). -/
theorem of_scfFlags (f g : Byte) : CarryAloneRead f g (scfFlags f) (scfFlags g) where
  carry := by rw [scfFlags_getLsbD, scfFlags_getLsbD]; rfl
  bits k := by
    simp only [scfFlags_getLsbD]
    split_ifs
    case neg => exact .inr ⟨rfl, rfl⟩
    all_goals exact .inl rfl

end CarryAloneRead

/-- From `s` and from `s` with the flags byte `f` an instruction leads to states that differ in the flags byte at most,
C alone of the old flags having been read for it. -/
def ReadsCarryAlone (i : Instr) (s : State) (f : Byte) : Prop :=
  ∃ t f', exec i s = .next t ∧ exec i (s.setF f) = .next (t.setF f') ∧ CarryAloneRead f s.regs.f f' t.regs.f

namespace ReadsCarryAlone
variable {i : Instr} {s : State} {f : Byte} {body : State → State}

/-- An instruction whose body passes the flags byte on. -/
theorem of_kept (hcarry : f.getLsbD 0 = s.regs.f.getLsbD 0) (hexec : ∀ u, exec i u = .next (body u))
    (hcommutes : body (s.setF f) = (body s).setF f) (hkept : (body s).regs.f = s.regs.f) : ReadsCarryAlone i s f :=
  ⟨body s, f, hexec s, by rw [hexec, hcommutes], by rw [hkept]; exact .kept hcarry⟩

/-- An instruction whose body overwrites it. -/
theorem of_overwritten (hexec : ∀ u, exec i u = .next (body u)) (hsame : body (s.setF f) = body s) :
    ReadsCarryAlone i s f :=
  ⟨body s, (body s).regs.f, hexec s, by rw [hexec, hsame]; rfl, .overwritten _ _ _⟩

end ReadsCarryAlone

theorem exec_readsCarryAlone (i : Instr) {s : State} {f : Byte} (hcarry : f.getLsbD 0 = s.regs.f.getLsbD 0) :
    ReadsCarryAlone i s f := by
  induction i using byForm with
  | hNop => exact .of_kept hcarry exec_nop rfl rfl
  | hHalt => exact .of_kept hcarry exec_halt rfl rfl
  | hScf => exact ⟨_, scfFlags f, exec_scf s, exec_scf _, .of_scfFlags f s.regs.f⟩
  | hJpNn nn => exact .of_kept hcarry (exec_jpNn nn) rfl rfl
  | hJrE e => exact .of_kept hcarry (exec_jrE e) rfl rfl
  | hCallNn nn => exact .of_kept hcarry (exec_callNn nn) rfl rfl
  | hRet => exact .of_kept hcarry exec_ret rfl rfl
  | hLdReg q n => exact .of_kept hcarry (exec_ldReg q n) (loadReg_setF s f q n) (s.regs.set_f q n)
  | hLdPair p nn => exact .of_kept hcarry (exec_ldPair p nn) (loadPair_setF s f p nn) (s.setReg16_f p nn)
  | hLdIndBcA => exact .of_kept hcarry exec_ldIndBcA (storeVia_setF s f .bc .a) rfl
  | hLdIndDeA => exact .of_kept hcarry exec_ldIndDeA (storeVia_setF s f .de .a) rfl
  | hStHl q => exact .of_kept hcarry (exec_stHl q) (storeVia_setF s f .hl q) rfl
  | hAdd q => exact .of_overwritten (exec_add q) (addReg_setF s f q)
  | hSub q => exact .of_overwritten (exec_sub q) (subReg_setF s f q)
  | hAdc p => exact .of_overwritten (exec_adc p) (adcPair_setF hcarry p)
  | hSbc p => exact .of_overwritten (exec_sbc p) (sbcPair_setF hcarry p)
  | hRotReg op q => exact .of_overwritten (exec_rotReg op q) (rotateReg_setF hcarry op q)
  | hRotHl op => exact .of_overwritten (exec_rotHl op) (rotateHl_setF hcarry op)
  | hBitReg b q =>
    exact ⟨_, bitf f (s.reg8 q) b, exec_bitReg b q s, by rw [exec_bitReg, testReg_setF], .of_bitf hcarry _ b⟩
  | hBitHl b =>
    exact ⟨_, bitf f (s.readOperand .hl) b, exec_bitHl b s, by rw [exec_bitHl, testMem_setF], .of_bitf hcarry _ b⟩
  | hLdIndex x nn => exact .of_kept hcarry (exec_ldIndex x nn) (loadIndex_setF s f x nn) (loadIndex_f x nn s)
  | hStIndex x d => exact .of_kept hcarry (exec_stIndex x d) (storeIndexed_setF s f x d) rfl
  | hSubIndex x d => exact .of_overwritten (exec_subIndex x d) (subIndexed_setF s f x d)
  | hBitIndex x b d =>
    exact ⟨_, bitf f (s.readOperand (.indexed x d)) b, exec_bitIndex x b d s, by rw [exec_bitIndex, testMem_setF],
      .of_bitf hcarry _ b⟩

/-- Settles O21: the other state is `s.setF f`. -/
theorem onlyTheCarryFlagIsRead : Obligations.OnlyTheCarryFlagIsRead := by
  intro i s t f hcarry hexec
  obtain ⟨u, f', hu, hother, hread⟩ := exec_readsCarryAlone i hcarry
  obtain rfl := exec_next_unique hexec hu
  exact ⟨f', hother, hread.carry, hread.bits⟩

end Sys2Proof.Machine

/-! PROOFS. The invariant of the machine (10 R29): one rule per operation of the state, from them that every instruction
and every step keeps it, and by induction over the run loop that every move of the host does. -/

namespace Sys2Proof.Machine

namespace State.Inv

section Operations
variable {s : State} (hs : s.Inv)
include hs

theorem setReg8 (q : Reg8) (v : Byte) : (s.setReg8 q v).Inv :=
  { hs with flags := by rw [setReg8_regs, RegSet.set_f]; exact hs.flags }

theorem setF {v : Byte} (hv : unnamedClear v = true) : (s.setF v).Inv := { hs with flags := hv }

theorem setReg16 (p : Reg16) (w : Word) : (s.setReg16 p w).Inv := by
  cases p <;> exact { hs with }

theorem setIndex (x : IndexReg) (w : Word) : (s.setIndex x w).Inv := by
  cases x <;> exact { hs with }

theorem setAF {rf : Byte × Byte} (hf : unnamedClear rf.2 = true) : (s.setAF rf).Inv := (hs.setReg8 .a rf.1).setF hf

theorem setHLF {rf : Word × Byte} (hf : unnamedClear rf.2 = true) : (s.setHLF rf).Inv :=
  (hs.setReg16 .hl rf.1).setF hf

theorem memWrite (a : Word) (v : Byte) : (s.memWrite a v).Inv := { hs with memory := memWrite_wf a v hs.memory }

theorem writeOperand (o : MemOperand) (v : Byte) : (s.writeOperand o v).Inv := hs.memWrite (s.address o) v

theorem push (w : Word) : (s.push w).Inv :=
  { (hs.memWrite (s.sp - 2) (loByte w)).memWrite (s.sp - 2 + 1) (hiByte w) with }

theorem pop : s.pop.Inv := { hs with }

theorem jump (target : Word) : (s.jump target).Inv := { hs with }

theorem charge (n : Nat) : (s.charge n).Inv := { hs with }

theorem advance (len : Nat) : (s.advance len).Inv :=
  { hs with range := fun hwrap => (leavesRange_of_wrap (s := s) len hwrap).trans (hs.range hwrap) }

theorem retire (len cost : Nat) : (s.retire len cost).Inv := (hs.advance len).charge cost

theorem endRun (reason : StopReason) : (s.endRun reason).Inv := { hs with }

theorem countUnknown : s.countUnknown.Inv := { hs with }

theorem beginRun : s.beginRun.Inv := { hs with }

theorem enter : s.enter.Inv := by
  unfold State.enter
  split
  · exact hs
  · exact hs.beginRun

theorem fetched : s.fetched.Inv := { hs.enter with refresh := fetched_r_lt s }

end Operations

end State.Inv

/-- Every instruction completes and keeps the invariant. -/
theorem exec_keeps_inv (i : Instr) {s : State} (hs : s.Inv) : ∃ t, exec i s = .next t ∧ t.Inv := by
  induction i using byForm with
  | hNop => exact ⟨_, exec_nop s, hs.retire 1 4⟩
  | hHalt => exact ⟨_, exec_halt s, (hs.retire 1 4).endRun .halt⟩
  | hScf => exact ⟨_, exec_scf s, (hs.setF (unnamedClear_scfFlags hs.flags)).retire 1 4⟩
  | hJpNn nn => exact ⟨_, exec_jpNn nn s, (hs.jump nn).charge 10⟩
  | hJrE e => exact ⟨_, exec_jrE e s, (hs.jump _).charge 12⟩
  | hCallNn nn => exact ⟨_, exec_callNn nn s, ((hs.push _).jump nn).charge 17⟩
  | hRet => exact ⟨_, exec_ret s, (hs.pop.jump _).charge 10⟩
  | hLdReg q n => exact ⟨_, exec_ldReg q n s, (hs.setReg8 q n).retire 2 7⟩
  | hLdPair p nn => exact ⟨_, exec_ldPair p nn s, (hs.setReg16 p nn).retire 3 10⟩
  | hLdIndBcA => exact ⟨_, exec_ldIndBcA s, (hs.writeOperand .bc _).retire 1 7⟩
  | hLdIndDeA => exact ⟨_, exec_ldIndDeA s, (hs.writeOperand .de _).retire 1 7⟩
  | hStHl q => exact ⟨_, exec_stHl q s, (hs.writeOperand .hl _).retire 1 7⟩
  | hAdd q => exact ⟨_, exec_add q s, (hs.setAF (unnamedClear_add8 _ _)).retire 1 4⟩
  | hSub q => exact ⟨_, exec_sub q s, (hs.setAF (unnamedClear_sub8 _ _)).retire 1 4⟩
  | hAdc p => exact ⟨_, exec_adc p s, (hs.setHLF (unnamedClear_adc16 _ _ _)).retire 2 15⟩
  | hSbc p => exact ⟨_, exec_sbc p s, (hs.setHLF (unnamedClear_sbc16 _ _ _)).retire 2 15⟩
  | hRotReg op q =>
    exact ⟨_, exec_rotReg op q s, ((hs.setReg8 q _).setF (unnamedClear_rotFlags _ _ _ _ _)).retire 2 8⟩
  | hRotHl op =>
    exact ⟨_, exec_rotHl op s, ((hs.writeOperand .hl _).setF (unnamedClear_rotFlags _ _ _ _ _)).retire 2 12⟩
  | hBitReg b q => exact ⟨_, exec_bitReg b q s, (hs.setF (unnamedClear_bitf _ b hs.flags)).retire 2 12⟩
  | hBitHl b => exact ⟨_, exec_bitHl b s, (hs.setF (unnamedClear_bitf _ b hs.flags)).retire 2 12⟩
  | hLdIndex x nn => exact ⟨_, exec_ldIndex x nn s, (hs.setIndex x nn).retire 4 _⟩
  | hStIndex x d => exact ⟨_, exec_stIndex x d s, (hs.writeOperand (.indexed x d) _).retire 3 _⟩
  | hSubIndex x d => exact ⟨_, exec_subIndex x d s, (hs.setAF (unnamedClear_sub8 _ _)).retire 3 _⟩
  | hBitIndex x b d => exact ⟨_, exec_bitIndex x b d s, (hs.setF (unnamedClear_bitf _ b hs.flags)).retire 4 20⟩

/-- The one answer of an unknown opcode that is a state (46 R121) keeps it too. -/
theorem raiseUnknownOpcode_keeps_inv {lv : Level} {s t : State} (hs : s.Inv)
    (hraise : raiseUnknownOpcode lv s = .next t) : t.Inv := by
  cases hpolicy : s.cfg.unlisted with
  | unknownNop =>
    rw [raiseUnknownOpcode_nop lv hpolicy] at hraise
    obtain rfl := Host.Outcome.next.inj hraise
    exact hs.countUnknown.retire _ 4
  | refuse =>
    rw [raiseUnknownOpcode_refuse lv hpolicy] at hraise
    contradiction

/-- A step keeps the invariant in each of its three cases. -/
theorem step_keeps_inv {s t : State} (hs : s.Inv) (hstep : step s = .next t) : t.Inv := by
  rcases step_cases s with ⟨-, hguard⟩ | ⟨-, i, -, hexec⟩ | ⟨-, lv, -, hraise⟩
  · obtain rfl := Host.Outcome.next.inj (hguard.symm.trans hstep)
    exact hs.enter.endRun .addressOutOfRange
  · obtain ⟨u, hu, huInv⟩ := exec_keeps_inv i hs.fetched
    rwa [exec_next_unique (hexec.symm.trans hstep) hu]
  · exact raiseUnknownOpcode_keeps_inv hs.fetched (hraise.symm.trans hstep)

/-- Settles O3. -/
theorem stepKeepsTheInvariant : Obligations.StepKeepsTheInvariant := fun _ _ => step_keeps_inv

/-- The run loop keeps the invariant, whatever it comes to: the state it leaves is reached by steps. -/
theorem runLoop_keeps_inv (fuel budget : Nat) {s : State} (hs : s.Inv) :
    (runLoop fuel budget s).reply.2.Inv := by
  induction fuel generalizing s with
  | zero => exact hs
  | succ fuel ih =>
    unfold runLoop
    split
    · exact hs.endRun .budgetExhausted
    · split
      next t hstep =>
        have ht : t.Inv := step_keeps_inv hs hstep
        split
        · exact ht
        · exact ih ht
        · exact ih ht
      next r => exact nomatch r
      next => exact hs

theorem run_keeps_inv (budget : Nat) {s : State} (hs : s.Inv) : (run budget s).reply.2.Inv :=
  runLoop_keeps_inv (budget + 1) budget hs.beginRun

/-- A load writes the image from address 0 where it fits, and writes nothing otherwise (50 R141). -/
theorem State.Inv.load {s : State} (hs : s.Inv) (source : Option (List Byte)) : (s.load source).2.Inv := by
  unfold State.load
  split
  · exact hs
  · split
    next => exact hs
    next hfits => exact { hs with memory := Memory.writeBytes_wf hs.memory (by omega) }

/-- What a move of the host can leave (50 R145). -/
theorem hostMove_cases {s t : State} {command : HostCommand} {reply : HostReply}
    (hmove : hostMove s command = some (reply, t)) :
    t = s.init ∨ (∃ source, t = (s.load source).2) ∨ (∃ budget, t = (run budget s).reply.2) ∨ t = s := by
  have state_of {m : HostReply × State} (h : some m = some (reply, t)) : t = m.2 :=
    (congrArg Prod.snd (Option.some.inj h)).symm
  unfold hostMove at hmove
  split at hmove
  next => contradiction
  next => exact .inl (state_of hmove)
  next source _ => exact .inr (.inl ⟨source, state_of hmove⟩)
  next budget _ => exact .inr (.inr (.inl ⟨budget, state_of hmove⟩))
  next => exact .inr (.inr (.inr (state_of hmove)))
  next => exact .inl (state_of hmove)
  next => contradiction
  next budget _ => exact .inr (.inr (.inl ⟨budget, state_of hmove⟩))
  next => exact .inr (.inr (.inr (state_of hmove)))

/-- Settles O4: a move leaves the reset state, what a load or a run leaves, or the state it found. -/
theorem hostMovesKeepTheInvariant : Obligations.HostMovesKeepTheInvariant := by
  intro s t command reply hs hmove
  rcases hostMove_cases hmove with rfl | ⟨source, rfl⟩ | ⟨budget, rfl⟩ | rfl
  · exact resetMeetsTheInvariant s.cfg
  · exact hs.load source
  · exact run_keeps_inv budget hs
  · exact hs

end Sys2Proof.Machine

/-! PROOFS. The instruction at `PC` (20 R37, 50 R136): the step runs what the four bytes there decode to, and bytes that
begin with an encoding decode to its instruction, whatever follows them. -/

namespace Sys2Proof.Machine

/-- Where the guard does not fire, the instruction that the bytes at `PC` decode to runs in the state after the fetch. -/
theorem step_eq_exec_fetched {s : State} {i : Instr} (hguard : s.guardFires = false)
    (hdecode : s.fetchDecode = .instr i) : step s = exec i s.fetched := by
  rcases step_cases s with ⟨hfires, -⟩ | ⟨-, i', hinstr, hstep⟩ | ⟨-, lv, hunknown, -⟩
  · rw [hguard] at hfires
    contradiction
  · obtain rfl : i = i' := Decoded.instr.inj (hdecode.symm.trans hinstr)
    exact hstep
  · rw [hdecode] at hunknown
    contradiction

/-- What the fetch leaves: `R` counted, and the run in progress, with its cycle total where one was (log entry 2). -/
theorem State.fetched_eq (s : State) : s.fetched = { s with
    r := BitVec.ofNat 8 ((s.r.toNat + 1) % 128)
    run := .inProgress
    cyc := if s.run = .inProgress then s.cyc else s.cfg.runEntryCycles } := by
  by_cases hrun : s.run = .inProgress
  · rw [State.fetched, State.enter_of_inProgress s hrun, if_pos hrun, ← hrun]
    rfl
  · rw [State.fetched, State.enter_of_not_inProgress s hrun, if_neg hrun]
    rfl

/-- Settles O9: the state after the fetch, written out. -/
theorem stepRunsTheDecodedInstruction : Obligations.StepRunsTheDecodedInstruction := by
  intro s i hguard hdecode
  rw [step_eq_exec_fetched hguard hdecode, State.fetched_eq]

/-! ### The decoder on bytes that begin as given -/

section LeadingBytes
variable (b0 b1 b2 b3 : Byte) (rest : List Byte)

theorem decodeBytes_one : decodeBytes ([b0] ++ rest) = decode b0 (rest.getD 0 0) (rest.getD 1 0) (rest.getD 2 0) := rfl
theorem decodeBytes_two : decodeBytes ([b0, b1] ++ rest) = decode b0 b1 (rest.getD 0 0) (rest.getD 1 0) := rfl
theorem decodeBytes_three : decodeBytes ([b0, b1, b2] ++ rest) = decode b0 b1 b2 (rest.getD 0 0) := rfl
theorem decodeBytes_four : decodeBytes ([b0, b1, b2, b3] ++ rest) = decode b0 b1 b2 b3 := rfl

end LeadingBytes

/-! ### Levels CB and XYCB: the fields of the key byte (30 R48, R57, R60) -/

section KeyByte
variable (op : RotOp) (q : Reg8) (b : Fin 8) (x : IndexReg) (d : Int)

theorem encode_rotReg : encode (.rotReg op q) = [0xCB, 0b00#2 ++ rotCode op ++ r8Code q] := by
  cases op <;> cases q <;> rfl
theorem encode_rotHl : encode (.rotHl op) = [0xCB, 0b00#2 ++ rotCode op ++ 0b110#3] := by cases op <;> rfl
theorem encode_bitReg : encode (.bitReg b q) = [0xCB, 0b01#2 ++ BitVec.ofFin (w := 3) b ++ r8Code q] := by
  cases q <;> fin_cases b <;> rfl
theorem encode_bitHl : encode (.bitHl b) = [0xCB, 0b01#2 ++ BitVec.ofFin (w := 3) b ++ 0b110#3] := by
  fin_cases b <;> rfl
theorem encode_bitIndex : encode (.bitIndex x b d) =
    [indexByte x, 0xCB, displacementByte d, 0b01#2 ++ BitVec.ofFin (w := 3) b ++ 0b110#3] := by
  cases x <;> fin_cases b <;> rfl

theorem decodeCB_rotReg : decodeCB (0b00#2 ++ rotCode op ++ r8Code q) = some (.rotReg op q) := by
  cases op <;> cases q <;> rfl
theorem decodeCB_rotHl : decodeCB (0b00#2 ++ rotCode op ++ 0b110#3) = some (.rotHl op) := by cases op <;> rfl
theorem decodeCB_bitReg : decodeCB (0b01#2 ++ BitVec.ofFin (w := 3) b ++ r8Code q) = some (.bitReg b q) := by
  cases q <;> fin_cases b <;> rfl
theorem decodeCB_bitHl : decodeCB (0b01#2 ++ BitVec.ofFin (w := 3) b ++ 0b110#3) = some (.bitHl b) := by
  fin_cases b <;> rfl
theorem decodeXYCB_bitIndex (e : Byte) :
    decodeXYCB x e (0b01#2 ++ BitVec.ofFin (w := 3) b ++ 0b110#3) = some (.bitIndex x b (sext8 e)) := by
  fin_cases b <;> rfl

theorem wellFormed_bitIndex : wellFormed (.bitIndex x b d) = fitsDisplacement d := by cases x <;> fin_cases b <;> rfl

end KeyByte

/-- A first byte 0xCB leads to level CB (30 R49). -/
theorem decodeBytes_cb {key : Byte} {i : Instr} (rest : List Byte) (hkey : decodeCB key = some i) :
    decodeBytes ([0xCB, key] ++ rest) = .instr i :=
  (decodeBytes_two _ _ rest).trans (congrArg (Decoded.ofHandler .cb) hkey)

/-- The first byte of an index register and then 0xCB lead to level XYCB (30 R49). -/
theorem decodeBytes_xycb {x : IndexReg} {d key : Byte} {i : Instr} (rest : List Byte)
    (hkey : decodeXYCB x d key = some i) : decodeBytes ([indexByte x, 0xCB, d, key] ++ rest) = .instr i := by
  cases x <;> exact (decodeBytes_four _ _ _ _ rest).trans (congrArg (Decoded.ofHandler .xycb) hkey)

/-! ### The round trip, and the bytes at `PC` -/

/-- The decoder reads an encoding back whatever bytes follow it. Opcode bytes are literals, on which the dispatch tree
evaluates; an immediate and a displacement are put together again from their bytes. -/
theorem decodeBytes_encode_append (i : Instr) (rest : List Byte) (hwf : wellFormed i = true) :
    decodeBytes (encode i ++ rest) = .instr i := by
  have immediate (make : Word → Instr) (nn : Word) :
      Decoded.instr (make (wordOf (hiByte nn) (loByte nn))) = .instr (make nn) := by rw [wordOf_hiByte_loByte]
  have displacement (make : Int → Instr) {x : Int} (hx : fitsDisplacement x = true) :
      Decoded.instr (make (sext8 (displacementByte x))) = .instr (make x) := by rw [sext8_displacementByte hx]
  induction i using byForm with
  | hNop => exact decodeBytes_one _ rest
  | hHalt => exact decodeBytes_one _ rest
  | hScf => exact decodeBytes_one _ rest
  | hJpNn nn => exact (decodeBytes_three _ _ _ rest).trans (immediate .jpNn nn)
  | hJrE e => exact (decodeBytes_two _ _ rest).trans (displacement .jrE hwf)
  | hCallNn nn => exact (decodeBytes_three _ _ _ rest).trans (immediate .callNn nn)
  | hRet => exact decodeBytes_one _ rest
  | hLdReg q n => cases q <;> exact decodeBytes_two _ n rest
  | hLdPair p nn => cases p <;> exact (decodeBytes_three _ _ _ rest).trans (immediate (.ldPair _) nn)
  | hLdIndBcA => exact decodeBytes_one _ rest
  | hLdIndDeA => exact decodeBytes_one _ rest
  | hStHl q => cases q <;> exact decodeBytes_one _ rest
  | hAdd q => cases q <;> exact decodeBytes_one _ rest
  | hSub q => cases q <;> exact decodeBytes_one _ rest
  | hAdc p => cases p <;> exact decodeBytes_two _ _ rest
  | hSbc p => cases p <;> exact decodeBytes_two _ _ rest
  | hRotReg op q => rw [encode_rotReg, decodeBytes_cb rest (decodeCB_rotReg op q)]
  | hRotHl op => rw [encode_rotHl, decodeBytes_cb rest (decodeCB_rotHl op)]
  | hBitReg b q => rw [encode_bitReg, decodeBytes_cb rest (decodeCB_bitReg q b)]
  | hBitHl b => rw [encode_bitHl, decodeBytes_cb rest (decodeCB_bitHl b)]
  | hLdIndex x nn => cases x <;> exact (decodeBytes_four _ _ _ _ rest).trans (immediate (.ldIndex _) nn)
  | hStIndex x d => cases x <;> exact (decodeBytes_three _ _ _ rest).trans (displacement (.stIndex _) hwf)
  | hSubIndex x d => cases x <;> exact (decodeBytes_three _ _ _ rest).trans (displacement (.subIndex _) hwf)
  | hBitIndex x b d =>
    rw [wellFormed_bitIndex] at hwf
    rw [encode_bitIndex, decodeBytes_xycb rest (decodeXYCB_bitIndex b x _), sext8_displacementByte hwf]

theorem encode_length_le_four (i : Instr) : (encode i).length ≤ 4 := by
  cases i <;> exact Nat.le_of_ble_eq_true rfl

/-- The bytes that a fetch reads, in address order. -/
def State.fetchBytes (s : State) : List Byte := (List.range 4).map fun k => s.memRead (s.pc + BitVec.ofNat 16 k)

theorem State.decodeBytes_fetchBytes (s : State) : decodeBytes s.fetchBytes = s.fetchDecode := by
  simp [State.fetchBytes, List.range_succ, decodeBytes, State.fetchDecode]

/-- Bytes at `PC` that begin with an encoding decode to its instruction. -/
theorem State.fetchDecode_of_encode_prefix {s : State} {i : Instr} (hwf : wellFormed i = true)
    (hprefix : encode i <+: s.fetchBytes) : s.fetchDecode = .instr i := by
  obtain ⟨rest, hrest⟩ := hprefix
  rw [← State.decodeBytes_fetchBytes, ← hrest]
  exact decodeBytes_encode_append i rest hwf

/-- Settles O10: an encoding is no longer than what a fetch reads, so it begins the bytes read. -/
theorem stepRunsTheInstructionEncodedAtPc : Obligations.StepRunsTheInstructionEncodedAtPc := by
  intro s i hguard hwf hbytes
  have hprefix : encode i <+: s.fetchBytes := by
    refine List.prefix_iff_getElem.mpr ⟨by simpa [State.fetchBytes] using encode_length_le_four i, fun k hk => ?_⟩
    simp [State.fetchBytes, hbytes k hk]
  exact step_eq_exec_fetched hguard (State.fetchDecode_of_encode_prefix hwf hprefix)

end Sys2Proof.Machine

/-! PROOFS. A store is seen by the next fetch (20 R42): what each storing body leaves in every cell, and that a later fetch
decodes those cells. -/

namespace Sys2Proof.Machine

/-! ### Reads after the fetch step -/

section Fetched
variable (s : State)

@[simp] theorem State.fetched_regs : s.fetched.regs = s.regs := s.enter_regs
@[simp] theorem State.fetched_sp : s.fetched.sp = s.sp := s.enter_sp
@[simp] theorem State.fetched_pc : s.fetched.pc = s.pc := s.enter_pc
@[simp] theorem State.fetched_mem : s.fetched.mem = s.mem := s.enter_mem
@[simp] theorem State.fetched_memRead (a : Word) : s.fetched.memRead a = s.memRead a := s.enter_memRead a
@[simp] theorem State.fetched_carry : s.fetched.carry = s.carry := by simp [State.carry]
@[simp] theorem State.fetched_reg8 (q : Reg8) : s.fetched.reg8 q = s.reg8 q := by simp [State.reg8]
@[simp] theorem State.fetched_reg16 (p : Reg16) : s.fetched.reg16 p = s.reg16 p := by
  cases p <;> simp [State.reg16, State.hl]
@[simp] theorem State.fetched_index (x : IndexReg) : s.fetched.index x = s.index x := by
  cases x
  · exact s.enter_ix
  · exact s.enter_iy
@[simp] theorem State.fetched_address (o : MemOperand) : s.fetched.address o = s.address o := by
  cases o <;> simp [State.address]

end Fetched

/-! ### The cells after each storing body -/

section StoringBodies
variable {s : State} (hmem : s.mem.wf = true) (a : Word)
include hmem

theorem writeOperand_memRead (o : MemOperand) (v : Byte) :
    (s.writeOperand o v).memRead a = if a = s.address o then v else s.memRead a :=
  State.memRead_memWrite (s.address o) a v hmem

theorem storeVia_memRead (o : MemOperand) (q : Reg8) :
    (storeVia o q s).memRead a = if a = s.address o then s.reg8 q else s.memRead a :=
  writeOperand_memRead hmem a o (s.reg8 q)

theorem storeIndexed_memRead (x : IndexReg) (d : Int) :
    (storeIndexed x d s).memRead a = if a = addDisplacement (s.index x) d then s.reg8 .a else s.memRead a :=
  writeOperand_memRead hmem a (.indexed x d) (s.reg8 .a)

theorem rotateHl_memRead (op : RotOp) :
    (rotateHl op s).memRead a =
      if a = s.reg16 .hl then (rotate op (s.memRead (s.reg16 .hl)) s.carry).1 else s.memRead a :=
  writeOperand_memRead hmem a .hl _

end StoringBodies

/-- Where an instruction that the bytes at `PC` decode to has a body, the step leaves what the body makes of the fetched
state, and every fetch there decodes the cells the body leaves. -/
theorem step_fetchesFrom {s : State} {i : Instr} {body : State → State} {target : Word} {cell : Word → Byte}
    (hguard : s.guardFires = false) (hdecode : s.fetchDecode = .instr i) (hexec : ∀ u, exec i u = .next (body u))
    (hpc : (body s.fetched).pc = target) (hcell : ∀ a, (body s.fetched).memRead a = cell a) :
    ∃ t, step s = .next t ∧ t.pc = target ∧ t.fetchesFrom cell :=
  ⟨body s.fetched, (step_eq_exec_fetched hguard hdecode).trans (hexec _), hpc, State.fetchesFrom_of_memRead hcell⟩

/-- A store through an operand changes its cell alone for every later fetch. -/
theorem step_storeVia {s : State} {i : Instr} {o : MemOperand} {q : Reg8} (hmem : s.mem.wf = true)
    (hguard : s.guardFires = false) (hdecode : s.fetchDecode = .instr i)
    (hexec : ∀ u, exec i u = .next (storeVia o q u)) :
    ∃ t, step s = .next t ∧ t.pc = s.pc + 1 ∧
      t.fetchesFrom fun a => if a = s.address o then s.reg8 q else s.memRead a := by
  refine step_fetchesFrom hguard hdecode hexec ?_ fun a => ?_
  · simp [storeVia]
  · rw [storeVia_memRead (by rw [State.fetched_mem, hmem])]
    simp

/-- Settles O30: each clause from the cells its body leaves. -/
theorem aStoreIsSeenByTheNextFetch : Obligations.AStoreIsSeenByTheNextFetch := by
  intro s hmem hguard
  have hfetched : s.fetched.mem.wf = true := by rw [State.fetched_mem, hmem]
  refine ⟨?throughBc, ?throughDe, ?throughHl, ?indexed, ?call, ?rotated⟩
  case throughBc => exact fun hdecode => step_storeVia hmem hguard hdecode exec_ldIndBcA
  case throughDe => exact fun hdecode => step_storeVia hmem hguard hdecode exec_ldIndDeA
  case throughHl => exact fun q hdecode => step_storeVia hmem hguard hdecode (exec_stHl q)
  case indexed =>
    refine fun x d hdecode => step_fetchesFrom hguard hdecode (exec_stIndex x d) ?_ fun a => ?_
    · simp [storeIndexed]
    · rw [storeIndexed_memRead hfetched, State.fetched_index, State.fetched_reg8, State.fetched_memRead]
      rfl
  case call =>
    refine fun nn hdecode => step_fetchesFrom hguard hdecode (exec_callNn nn) rfl fun a => ?_
    refine (State.memRead_push (s.fetched.pc + 3) a hfetched).trans ?_
    simp [loByte_eq, hiByte_eq]
  case rotated =>
    intro op hdecode
    obtain ⟨t, hstep, hpc, hcells⟩ := step_fetchesFrom hguard hdecode (exec_rotHl op) rfl
      (fun a => rotateHl_memRead hfetched a op)
    refine ⟨t, hstep, ?_, (rotate op (s.memRead (s.reg16 .hl)) s.carry).1, fun k hk => rotate_getLsbD op _ _ hk, ?_⟩
    · simpa [rotateHl] using hpc
    · simpa using hcells

end Sys2Proof.Machine

/-! PROOFS. The encoding (30 R45 to R61): the decoder reads every encoding back, and bytes that it gives a meaning begin
with an encoding. Each level of the dispatch tree is inverted in the fields of its key byte. -/

namespace Sys2Proof.Machine

/-- Settles O5. -/
theorem decodeOfEncodeIsTheInstruction : Obligations.DecodeOfEncodeIsTheInstruction := decodeBytes_encode_append

/-! ### A byte from its fields (30 R48), and a field from the operand it names (30 R50, R51, 43 R86) -/

theorem byte_of_fields {b : Byte} {x : BitVec 2} {y z : BitVec 3} (hx : opX b = x) (hy : opY b = y) (hz : opZ b = z) :
    b = x ++ y ++ z := by
  subst hx hy hz
  rw [opX, opY, opZ, BitVec.extractLsb'_append_extractLsb'_eq_extractLsb' (show 6 = 3 + 3 from rfl),
    BitVec.extractLsb'_append_extractLsb'_eq_extractLsb' (show 3 = 0 + 3 from rfl)]
  exact BitVec.extractLsb'_eq_self.symm

theorem byte_of_pairFields {b : Byte} {x : BitVec 2} {p : BitVec 2} {q : BitVec 1} {z : BitVec 3} (hx : opX b = x)
    (hp : opP b = p) (hq : opQ b = q) (hz : opZ b = z) : b = x ++ p ++ (q ++ z) := by
  subst hx hp hq hz
  rw [opX, opP, opQ, opZ, BitVec.extractLsb'_append_extractLsb'_eq_extractLsb' (show 6 = 4 + 2 from rfl),
    BitVec.extractLsb'_append_extractLsb'_eq_extractLsb' (show 3 = 0 + 3 from rfl),
    BitVec.extractLsb'_append_extractLsb'_eq_extractLsb' (show 4 = 0 + (3 + 1) from rfl)]
  exact BitVec.extractLsb'_eq_self.symm

theorem eq_r8Code_of_reg8OfCode {code : BitVec 3} {q : Reg8} (h : reg8OfCode code = some q) : code = r8Code q := by
  revert code
  cases q <;> decide

theorem eq_six_of_reg8OfCode : ∀ {code : BitVec 3}, reg8OfCode code = none → code = 0b110#3 := by decide

theorem eq_rpCode_of_reg16OfCode {code : BitVec 2} {p : Reg16} (h : reg16OfCode code = p) : code = rpCode p := by
  subst h
  revert code
  decide

theorem eq_rotCode_of_rotOpOfCode {code : BitVec 3} {op : RotOp} (h : rotOpOfCode code = some op) :
    code = rotCode op := by
  revert code
  cases op <;> decide

/-! ### The encodings of the other forms with a coded operand (30 R56, R58, R59) -/

theorem encode_ldReg (q : Reg8) (n : Byte) : encode (.ldReg q n) = [0b00#2 ++ r8Code q ++ 0b110#3, n] := by
  cases q <;> rfl
theorem encode_ldPair (p : Reg16) (nn : Word) :
    encode (.ldPair p nn) = [0b00#2 ++ rpCode p ++ 0b0001#4, loByte nn, hiByte nn] := by
  cases p <;> rfl
theorem encode_stHl (q : Reg8) : encode (.stHl q) = [0b01110#5 ++ r8Code q] := by cases q <;> rfl
theorem encode_add (q : Reg8) : encode (.add q) = [0b10000#5 ++ r8Code q] := by cases q <;> rfl
theorem encode_sub (q : Reg8) : encode (.sub q) = [0b10010#5 ++ r8Code q] := by cases q <;> rfl
theorem encode_adc (p : Reg16) : encode (.adc p) = [0xED, 0b01#2 ++ rpCode p ++ 0b1010#4] := by cases p <;> rfl
theorem encode_sbc (p : Reg16) : encode (.sbc p) = [0xED, 0b01#2 ++ rpCode p ++ 0b0010#4] := by cases p <;> rfl
theorem encode_ldIndex (x : IndexReg) (nn : Word) :
    encode (.ldIndex x nn) = [indexByte x, 0x21, loByte nn, hiByte nn] := by cases x <;> rfl
theorem encode_stIndex (x : IndexReg) (d : Int) :
    encode (.stIndex x d) = [indexByte x, 0x77, displacementByte d] := by cases x <;> rfl
theorem encode_subIndex (x : IndexReg) (d : Int) :
    encode (.subIndex x d) = [indexByte x, 0x96, displacementByte d] := by cases x <;> rfl

/-! ### Each level of the tree, inverted -/

/-- The bytes begin with the encoding of a well-formed instruction. -/
def BeginWithEncodingOf (bs : List Byte) (i : Instr) : Prop := wellFormed i = true ∧ encode i <+: bs

/-- An encoding is what stands before the key byte, the key byte, and operands after it. -/
theorem BeginWithEncodingOf.of_key {key code : Byte} {i : Instr} (before operands : List Byte) {rest : List Byte}
    (hkey : key = code) (hencode : encode i = before ++ code :: operands) (hwf : wellFormed i = true) :
    BeginWithEncodingOf (before ++ key :: (operands ++ rest)) i :=
  ⟨hwf, rest, by simp [hencode, hkey]⟩

/-! Level U (30 R56), one lemma for each value of the field `x` (30 R48). -/

section LevelU
variable {b0 b1 b2 : Byte} {i : Instr} (b3 : Byte) (h : decodeU b0 b1 b2 = some i)
include h

theorem beginWithEncodingOf_of_decodeU_x0 (hx : opX b0 = 0b00#2) : BeginWithEncodingOf [b0, b1, b2, b3] i := by
  simp only [decodeU, hx, ↓reduceIte] at h
  split at h
  · next hz =>
    split at h
    · next hy =>
      cases h
      exact .of_key [] [] (byte_of_fields hx hy hz) rfl rfl
    split at h
    · next hy =>
      cases h
      exact .of_key [] [b1] (byte_of_fields hx hy hz) (by rw [encode, displacementByte_sext8]; rfl)
        (fitsDisplacement_sext8 b1)
    · cases h
  split at h
  · next hz =>
    split at h
    · next hq =>
      generalize hp : reg16OfCode (opP b0) = p at h
      cases h
      exact .of_key [] [b1, b2] (byte_of_pairFields hx (eq_rpCode_of_reg16OfCode hp) hq hz)
        (by rw [encode_ldPair, loByte_wordOf, hiByte_wordOf]; rfl) (by cases p <;> rfl)
    · cases h
  split at h
  · next hz =>
    split at h
    · next hy =>
      cases h
      exact .of_key [] [] (byte_of_fields hx hy hz) rfl rfl
    split at h
    · next hy =>
      cases h
      exact .of_key [] [] (byte_of_fields hx hy hz) rfl rfl
    · cases h
  split at h
  · next hz =>
    obtain ⟨q, hq, rfl⟩ := Option.map_eq_some_iff.mp h
    exact .of_key [] [b1] (byte_of_fields hx (eq_r8Code_of_reg8OfCode hq) hz) (encode_ldReg q b1) (by cases q <;> rfl)
  split at h
  · next hz =>
    split at h
    · next hy =>
      cases h
      exact .of_key [] [] (byte_of_fields hx hy hz) rfl rfl
    · cases h
  · cases h

theorem beginWithEncodingOf_of_decodeU_x1 (hx : opX b0 = 0b01#2) : BeginWithEncodingOf [b0, b1, b2, b3] i := by
  simp only [decodeU, hx, ↓reduceIte, BitVec.reduceEq] at h
  split at h
  · next hy =>
    split at h
    · next q hq =>
      cases h
      exact .of_key [] [] (byte_of_fields hx hy (eq_r8Code_of_reg8OfCode hq)) (encode_stHl q) (by cases q <;> rfl)
    · next hq =>
      cases h
      exact .of_key [] [] (byte_of_fields hx hy (eq_six_of_reg8OfCode hq)) rfl rfl
  · cases h

theorem beginWithEncodingOf_of_decodeU_x2 (hx : opX b0 = 0b10#2) : BeginWithEncodingOf [b0, b1, b2, b3] i := by
  simp only [decodeU, hx, ↓reduceIte, BitVec.reduceEq] at h
  split at h
  · next hy =>
    obtain ⟨q, hq, rfl⟩ := Option.map_eq_some_iff.mp h
    exact .of_key [] [] (byte_of_fields hx hy (eq_r8Code_of_reg8OfCode hq)) (encode_add q) (by cases q <;> rfl)
  split at h
  · next hy =>
    obtain ⟨q, hq, rfl⟩ := Option.map_eq_some_iff.mp h
    exact .of_key [] [] (byte_of_fields hx hy (eq_r8Code_of_reg8OfCode hq)) (encode_sub q) (by cases q <;> rfl)
  · cases h

theorem beginWithEncodingOf_of_decodeU_x3 (hx : opX b0 = 0b11#2) : BeginWithEncodingOf [b0, b1, b2, b3] i := by
  simp only [decodeU, hx, ↓reduceIte, BitVec.reduceEq] at h
  split at h
  · next hfields =>
    obtain ⟨hy, hz⟩ := hfields
    cases h
    exact .of_key [] [b1, b2] (byte_of_fields hx hy hz) (by rw [encode, loByte_wordOf, hiByte_wordOf]; rfl) rfl
  split at h
  · next hfields =>
    obtain ⟨hy, hz⟩ := hfields
    cases h
    exact .of_key [] [] (byte_of_fields hx hy hz) rfl rfl
  split at h
  · next hfields =>
    obtain ⟨hy, hz⟩ := hfields
    cases h
    exact .of_key [] [b1, b2] (byte_of_fields hx hy hz) (by rw [encode, loByte_wordOf, hiByte_wordOf]; rfl) rfl
  · cases h

theorem beginWithEncodingOf_of_decodeU : BeginWithEncodingOf [b0, b1, b2, b3] i := by
  have hcases : ∀ x : BitVec 2, x = 0b00#2 ∨ x = 0b01#2 ∨ x = 0b10#2 ∨ x = 0b11#2 := by decide
  rcases hcases (opX b0) with hx | hx | hx | hx
  · exact beginWithEncodingOf_of_decodeU_x0 b3 h hx
  · exact beginWithEncodingOf_of_decodeU_x1 b3 h hx
  · exact beginWithEncodingOf_of_decodeU_x2 b3 h hx
  · exact beginWithEncodingOf_of_decodeU_x3 b3 h hx

end LevelU

/-! The prefixed levels (30 R57 to R60), each under the bytes that lead to it (30 R49). -/

theorem beginWithEncodingOf_of_decodeCB {key : Byte} {i : Instr} (b2 b3 : Byte) (h : decodeCB key = some i) :
    BeginWithEncodingOf [0xCB, key, b2, b3] i := by
  rw [decodeCB] at h
  split at h
  · next hx =>
    obtain ⟨op, hop, rfl⟩ := Option.map_eq_some_iff.mp h
    have hy := eq_rotCode_of_rotOpOfCode hop
    split
    · next q hq =>
      exact .of_key [0xCB] [] (byte_of_fields hx hy (eq_r8Code_of_reg8OfCode hq)) (encode_rotReg op q)
        (by cases op <;> cases q <;> rfl)
    · next hq =>
      exact .of_key [0xCB] [] (byte_of_fields hx hy (eq_six_of_reg8OfCode hq)) (encode_rotHl op)
        (by cases op <;> rfl)
  split at h
  · next hx =>
    generalize hb : (opY key).toFin = b at h
    have hy : opY key = BitVec.ofFin b := hb ▸ rfl
    split at h
    · next q hq =>
      cases h
      exact .of_key [0xCB] [] (byte_of_fields hx hy (eq_r8Code_of_reg8OfCode hq)) (encode_bitReg q b)
        (by cases q <;> fin_cases b <;> rfl)
    · next hq =>
      cases h
      exact .of_key [0xCB] [] (byte_of_fields hx hy (eq_six_of_reg8OfCode hq)) (encode_bitHl b)
        (by fin_cases b <;> rfl)
  · cases h

theorem beginWithEncodingOf_of_decodeED {key : Byte} {i : Instr} (b2 b3 : Byte) (h : decodeED key = some i) :
    BeginWithEncodingOf [0xED, key, b2, b3] i := by
  rw [decodeED] at h
  split at h
  · next hfields =>
    obtain ⟨hx, hz⟩ := hfields
    generalize hp : reg16OfCode (opP key) = p at h
    have hcode := eq_rpCode_of_reg16OfCode hp
    split at h
    · next hq =>
      cases h
      exact .of_key [0xED] [] (byte_of_pairFields hx hcode hq hz) (encode_sbc p) (by cases p <;> rfl)
    · next hq =>
      cases h
      have hone : opQ key = 0b1#1 := (BitVec.eq_zero_or_eq_one _).resolve_left hq
      exact .of_key [0xED] [] (byte_of_pairFields hx hcode hone hz) (encode_adc p) (by cases p <;> rfl)
  · cases h

theorem beginWithEncodingOf_of_decodeXY {x : IndexReg} {key b2 b3 : Byte} {i : Instr}
    (h : decodeXY x key b2 b3 = some i) : BeginWithEncodingOf [indexByte x, key, b2, b3] i := by
  rw [decodeXY] at h
  split at h
  · next hkey =>
    cases h
    exact .of_key [indexByte x] [b2, b3] hkey (by rw [encode_ldIndex, loByte_wordOf, hiByte_wordOf]; rfl)
      (by cases x <;> rfl)
  split at h
  · next hkey =>
    cases h
    exact .of_key [indexByte x] [b2] hkey (by rw [encode_stIndex, displacementByte_sext8]; rfl)
      (by cases x <;> exact fitsDisplacement_sext8 b2)
  split at h
  · next hkey =>
    cases h
    exact .of_key [indexByte x] [b2] hkey (by rw [encode_subIndex, displacementByte_sext8]; rfl)
      (by cases x <;> exact fitsDisplacement_sext8 b2)
  · cases h

theorem beginWithEncodingOf_of_decodeXYCB {x : IndexReg} {d key : Byte} {i : Instr}
    (h : decodeXYCB x d key = some i) : BeginWithEncodingOf [indexByte x, 0xCB, d, key] i := by
  rw [decodeXYCB] at h
  split at h
  · next hfields =>
    obtain ⟨hx, hz⟩ := hfields
    generalize hb : (opY key).toFin = b at h
    have hy : opY key = BitVec.ofFin b := hb ▸ rfl
    cases h
    exact .of_key [indexByte x, 0xCB, d] [] (byte_of_fields hx hy hz)
      (by rw [encode_bitIndex, displacementByte_sext8]; rfl) (by rw [wellFormed_bitIndex, fitsDisplacement_sext8])
  · cases h

theorem eq_some_of_ofHandler {lv : Level} {handler : Option Instr} {i : Instr}
    (h : Decoded.ofHandler lv handler = .instr i) : handler = some i := by
  cases handler with
  | none => cases h
  | some _ => rw [Decoded.instr.inj h]

theorem beginWithEncodingOf_of_decodeIndexed {x : IndexReg} {b1 b2 b3 : Byte} {i : Instr}
    (h : decodeIndexed x b1 b2 b3 = .instr i) : BeginWithEncodingOf [indexByte x, b1, b2, b3] i := by
  rw [decodeIndexed] at h
  split at h
  · next hb1 =>
    rw [hb1]
    exact beginWithEncodingOf_of_decodeXYCB (eq_some_of_ofHandler h)
  · exact beginWithEncodingOf_of_decodeXY (eq_some_of_ofHandler h)

/-- Bytes with a meaning begin with its encoding. -/
theorem beginWithEncodingOf_of_decode {b0 b1 b2 b3 : Byte} {i : Instr} (h : decode b0 b1 b2 b3 = .instr i) :
    BeginWithEncodingOf [b0, b1, b2, b3] i := by
  rw [decode] at h
  split at h
  · next hb0 =>
    rw [hb0]
    exact beginWithEncodingOf_of_decodeCB b2 b3 (eq_some_of_ofHandler h)
  split at h
  · next hb0 =>
    rw [hb0]
    exact beginWithEncodingOf_of_decodeED b2 b3 (eq_some_of_ofHandler h)
  split at h
  · next hb0 =>
    rw [hb0]
    exact beginWithEncodingOf_of_decodeIndexed (x := .ix) h
  split at h
  · next hb0 =>
    rw [hb0]
    exact beginWithEncodingOf_of_decodeIndexed (x := .iy) h
  · exact beginWithEncodingOf_of_decodeU b3 (eq_some_of_ofHandler h)

/-- Bytes that begin with an encoding have its meaning. -/
theorem decode_of_beginWithEncodingOf {b0 b1 b2 b3 : Byte} {i : Instr} (h : BeginWithEncodingOf [b0, b1, b2, b3] i) :
    decode b0 b1 b2 b3 = .instr i := by
  obtain ⟨hwf, rest, hbytes⟩ := h
  rw [← decodeBytes_encode_append i rest hwf, hbytes]
  rfl

/-- Settles O7: an instruction is the meaning of the bytes exactly where its encoding begins them, and the decoder is
total. -/
theorem unknownExactlyWhereNothingEncodes : Obligations.UnknownExactlyWhereNothingEncodes := by
  intro b0 b1 b2 b3
  constructor
  · rintro ⟨lv, hunknown⟩ i hwf hprefix
    rw [decode_of_beginWithEncodingOf ⟨hwf, hprefix⟩] at hunknown
    cases hunknown
  · intro hnone
    cases hdecode : decode b0 b1 b2 b3 with
    | unknown lv => exact ⟨lv, rfl⟩
    | instr i =>
      obtain ⟨hwf, hprefix⟩ := beginWithEncodingOf_of_decode hdecode
      exact absurd hprefix (hnone i hwf)

end Sys2Proof.Machine

/-! PROOFS. A table word that the host places at `PC` (log entries 3 and 5): stored bytes are read back where they
stand, so the next fetch reads the word's. -/

namespace Sys2Proof.Machine

theorem word_add_ofNat_succ (a : Word) (k : Nat) : a + BitVec.ofNat 16 (k + 1) = a + 1 + BitVec.ofNat 16 k := by
  rw [BitVec.ofNat_add, add_comm (BitVec.ofNat 16 k), ← add_assoc]
  rfl

@[simp] theorem State.storeBytes_pc (s : State) (a : Word) (bs : List Byte) : (s.storeBytes a bs).pc = s.pc := by
  induction bs generalizing s a with
  | nil => rfl
  | cons v rest ih => exact ih (s.memWrite a v) (a + 1)

/-- Bytes stored at consecutive addresses leave a cell outside them alone. -/
theorem State.storeBytes_memRead_other (s : State) {a b : Word} {bs : List Byte}
    (h : ∀ k < bs.length, b ≠ a + BitVec.ofNat 16 k) : (s.storeBytes a bs).memRead b = s.memRead b := by
  induction bs generalizing s a with
  | nil => rfl
  | cons v rest ih =>
    have hhead : b ≠ a := by simpa using h 0 (by simp)
    have htail : ∀ k < rest.length, b ≠ a + 1 + BitVec.ofNat 16 k := fun k hk => by
      rw [← word_add_ofNat_succ]
      exact h (k + 1) (by simpa using hk)
    rw [State.storeBytes, ih _ htail, State.memRead_memWrite_other s v hhead]

/-- Each byte is read back where it was stored: at most 65536 of them fall on cells of their own. -/
theorem State.storeBytes_memRead_at {s : State} (a : Word) {bs : List Byte} (hmem : s.mem.wf = true)
    (hlen : bs.length ≤ 65536) {k : Nat} (hk : k < bs.length) :
    (s.storeBytes a bs).memRead (a + BitVec.ofNat 16 k) = bs[k] := by
  induction bs generalizing s a k with
  | nil => simp at hk
  | cons v rest ih =>
    simp only [List.length_cons] at hlen hk
    cases k with
    | zero =>
      have hother : ∀ j < rest.length, a + BitVec.ofNat 16 0 ≠ a + 1 + BitVec.ofNat 16 j := fun j hj => by bv_omega
      rw [State.storeBytes, State.storeBytes_memRead_other _ hother, BitVec.add_zero]
      exact State.memRead_memWrite_same a v hmem
    | succ k =>
      rw [State.storeBytes, word_add_ofNat_succ]
      exact ih (a + 1) (State.memWrite_wf a v hmem) (by omega) (by omega)

@[simp] theorem State.withFetchWord_pc (s : State) (nbits w : Nat) : (s.withFetchWord nbits w).pc = s.pc :=
  s.storeBytes_pc s.pc (tableBytes nbits w)

@[simp] theorem State.withFetchWord_memRead (s : State) (nbits w : Nat) (a : Word) :
    (s.withFetchWord nbits w).memRead a = (s.storeBytes s.pc (tableBytes nbits w)).memRead a := rfl

theorem State.withFetchWord_guardFires (s : State) (nbits w : Nat) : (s.withFetchWord nbits w).guardFires = false := by
  simp [State.guardFires, State.withFetchWord, State.placeTableWord]

theorem tableBytes_length (nbits w : Nat) : (tableBytes nbits w).length = 4 := by simp [tableBytes]

/-- The next fetch reads the bytes of the word placed. -/
theorem State.withFetchWord_fetchBytes {s : State} (nbits w : Nat) (hmem : s.mem.wf = true) :
    (s.withFetchWord nbits w).fetchBytes = tableBytes nbits w := by
  refine List.ext_getElem (by simp [State.fetchBytes, tableBytes_length]) fun k _ hk => ?_
  simpa [State.fetchBytes] using State.storeBytes_memRead_at s.pc hmem (by rw [tableBytes_length]; omega) hk

theorem decodeBytes_of_decodeTableWord {nbits w : Nat} {i : Instr} (h : decodeTableWord nbits w = some i) :
    decodeBytes (tableBytes nbits w) = .instr i := by
  rw [decodeTableWord] at h
  split at h
  · next hdecode =>
    cases h
    exact hdecode
  · cases h

/-- Settles O11: the guard is lifted, and the fetch reads the word's bytes. -/
theorem stepRunsAPlacedTableWord : Obligations.StepRunsAPlacedTableWord := by
  intro s nbits w i hmem hword
  refine step_eq_exec_fetched (s.withFetchWord_guardFires nbits w) ?_
  rw [← State.decodeBytes_fetchBytes, State.withFetchWord_fetchBytes nbits w hmem]
  exact decodeBytes_of_decodeTableWord hword

end Sys2Proof.Machine

/-! PROOFS. The loads and stores (40 R65 to R70): a load writes its register or pair and no other, a store its cell, and
each body leaves the rest of the state but `PC`, the range bit and the cycle total as it was. -/

namespace Sys2Proof.Machine

/-! ### A register and a pair after a write -/

section RegisterWrites
variable (s : State)

@[simp] theorem State.setReg8_reg8_same (q : Reg8) (v : Byte) : (s.setReg8 q v).reg8 q = v :=
  s.regs.get_set_same q v

theorem State.setReg8_reg8_other {q q' : Reg8} (v : Byte) (h : q' ≠ q) : (s.setReg8 q v).reg8 q' = s.reg8 q' :=
  s.regs.get_set_other v h

@[simp] theorem State.setReg16_reg16_same (p : Reg16) (w : Word) : (s.setReg16 p w).reg16 p = w := by
  cases p with
  | bc => exact wordOf_hiByte_loByte w
  | de => exact wordOf_hiByte_loByte w
  | hl => exact wordOf_hiByte_loByte w
  | sp => rfl

/-- Two different pairs share no half, and `SP` is no part of a pair (10 R11, 30 R51). -/
theorem State.setReg16_reg16_other {p p' : Reg16} (w : Word) (h : p' ≠ p) :
    (s.setReg16 p w).reg16 p' = s.reg16 p' := by
  cases p <;> cases p' <;> trivial

@[simp] theorem State.setReg16_a (p : Reg16) (w : Word) : (s.setReg16 p w).regs.a = s.regs.a := by cases p <;> rfl

end RegisterWrites

/-! ### What each body leaves unchanged -/

section Frames
variable (s : State)

theorem loadReg_frame (q : Reg8) (n : Byte) :
    loadReg q n s = { s with
      regs := (loadReg q n s).regs, pc := s.pc + 2, pcLeftRange := s.leavesRange 2, cyc := s.cyc + 7 } := rfl

theorem loadPair_frame (p : Reg16) (nn : Word) :
    loadPair p nn s = { s with
      regs := (loadPair p nn s).regs, sp := (loadPair p nn s).sp, pc := s.pc + 3, pcLeftRange := s.leavesRange 3,
      cyc := s.cyc + 10 } := by
  cases p <;> rfl

theorem storeVia_frame (o : MemOperand) (q : Reg8) :
    storeVia o q s = { s with
      mem := (storeVia o q s).mem, pc := s.pc + 1, pcLeftRange := s.leavesRange 1, cyc := s.cyc + 7 } := rfl

end Frames

/-! ### The encodings -/

/-- `00 110 110` has no row: the operand code 110 names no register (30 R50, R61). -/
theorem decode_ldReg_code_six (b1 b2 b3 : Byte) : decode 0b00110110 b1 b2 b3 = .unknown .u := rfl

/-- The low byte of an immediate comes first (30 R54). -/
theorem immediate_eq (nn : Word) : immediate nn = [loByte nn, hiByte nn] := by
  rw [immediate, loByte_eq, hiByte_eq]

/-! ### The statements -/

/-- Settles O26: the body writes the register by `setReg8`. -/
theorem loadRegisterImmediate : Obligations.LoadRegisterImmediate := by
  intro q n s
  refine ⟨encode_ldReg q n, decode_ldReg_code_six, loadReg q n s, exec_ldReg q n s, ?written, ?others, ?flags, ?cells,
    loadReg_frame s q n⟩
  case written => exact s.setReg8_reg8_same q n
  case others => exact fun q' hother => s.setReg8_reg8_other n hother
  case flags => exact s.regs.set_f q n
  case cells => exact State.memRead_congr rfl

/-- Settles O27: the body writes the pair by `setReg16`. -/
theorem loadPairImmediate : Obligations.LoadPairImmediate := by
  intro p nn s
  refine ⟨?encoding, loadPair p nn s, exec_ldPair p nn s, ?written, ?others, ?accumulator, ?flags, ?cells,
    loadPair_frame s p nn⟩
  case encoding => rw [encode_ldPair, immediate_eq]
  case written => exact s.setReg16_reg16_same p nn
  case others => exact fun p' hother => s.setReg16_reg16_other nn hother
  case accumulator => exact s.setReg16_a p nn
  case flags => exact s.setReg16_f p nn
  case cells => exact State.memRead_congr (s.setReg16_mem p nn)

/-- A store through an operand changes the cell it names, and leaves every other cell and every register. -/
theorem exec_storeVia {s : State} {i : Instr} {o : MemOperand} {q : Reg8} (hmem : s.mem.wf = true)
    (hexec : exec i s = .next (storeVia o q s)) :
    ∃ t, exec i s = .next t ∧ (∀ a, t.memRead a = if a = s.address o then s.reg8 q else s.memRead a) ∧
      t = { s with mem := t.mem, pc := s.pc + 1, pcLeftRange := s.leavesRange 1, cyc := s.cyc + 7 } :=
  ⟨storeVia o q s, hexec, fun a => storeVia_memRead hmem a o q, storeVia_frame s o q⟩

/-- Settles O28: both instructions store `A` through their pair. -/
theorem storeAccumulatorThroughPair : Obligations.StoreAccumulatorThroughPair := fun s hmem =>
  ⟨rfl, rfl, exec_storeVia hmem (exec_ldIndBcA s), exec_storeVia hmem (exec_ldIndDeA s)⟩

/-- Settles O29: the instruction stores its register through `HL`. -/
theorem storeRegisterThroughHl : Obligations.StoreRegisterThroughHl := fun q s hmem =>
  ⟨encode_stHl q, exec_storeVia hmem (exec_stHl q s)⟩

end Sys2Proof.Machine

/-! PROOFS. The 8-bit additions and subtractions (41 R73 to R75): a body that writes `A` and `F` leaves every other
register, and bit `k` of the exclusive or of operands and result is the carry into that bit, or the borrow from it. -/

namespace Sys2Proof.Machine

/-! ### A register after a write of `A` and `F` -/

section AccumulatorWrites
variable (s : State) (rf : Byte × Byte)

@[simp] theorem State.setAF_reg8_a : (s.setAF rf).reg8 .a = rf.1 := rfl

theorem State.setAF_reg8_other {q : Reg8} (h : q ≠ .a) : (s.setAF rf).reg8 q = s.reg8 q :=
  ((s.regs.set .a rf.1).get_with_f q rf.2).trans (s.regs.get_set_other rf.1 h)

theorem setAF_retire_frame (len cost : Nat) :
    (s.setAF rf).retire len cost = { s with
      regs := ((s.setAF rf).retire len cost).regs, pc := s.pc + BitVec.ofNat 16 len, pcLeftRange := s.leavesRange len,
      cyc := s.cyc + cost } := rfl

end AccumulatorWrites

/-- An instruction that writes a result to `A` and its flags to `F` changes no other register and no cell. -/
theorem exec_setAF {s : State} {i : Instr} {r f : Byte} {len cost : Nat}
    (hexec : exec i s = .next ((s.setAF (r, f)).retire len cost)) :
    ∃ t, exec i s = .next t ∧ t.reg8 .a = r ∧ (∀ q, q ≠ .a → t.reg8 q = s.reg8 q) ∧ t.regs.f = f ∧
      (∀ a, t.memRead a = s.memRead a) ∧
      t = { s with
        regs := t.regs, pc := s.pc + BitVec.ofNat 16 len, pcLeftRange := s.leavesRange len, cyc := s.cyc + cost } :=
  ⟨_, hexec, s.setAF_reg8_a _, fun _ hother => s.setAF_reg8_other _ hother, rfl, State.memRead_congr rfl,
    setAF_retire_frame s _ len cost⟩

/-! ### The encodings -/

/-- `10 000 110` and `10 010 110` have no row: the operand code 110 names no register (30 R56, R61). -/
theorem decode_add_code_six (b1 b2 b3 : Byte) : decode 0b10000110 b1 b2 b3 = .unknown .u := rfl

theorem decode_sub_code_six (b1 b2 b3 : Byte) : decode 0b10010110 b1 b2 b3 = .unknown .u := rfl

/-! ### The carry into a bit and the borrow from it -/

section CarryAndBorrow
variable {n : Nat} (a b : BitVec n) {k : Nat}

/-- Bit `k` of a sum is the exclusive or of the operands' bits and the carry into it. -/
theorem getLsbD_xor_add (hk : k < n) : (a ^^^ b ^^^ (a + b)).getLsbD k = BitVec.carry k a b false := by
  rw [BitVec.getLsbD_xor, BitVec.getLsbD_xor, BitVec.getLsbD_add hk]
  cases a.getLsbD k <;> cases b.getLsbD k <;> simp

/-- A carry goes into bit `k` exactly where the parts below it add to `2 ^ k` or more. -/
theorem getLsbD_xor_add_iff (hk : k < n) :
    (a ^^^ b ^^^ (a + b)).getLsbD k = true ↔ 2 ^ k ≤ a.toNat % 2 ^ k + b.toNat % 2 ^ k := by
  rw [getLsbD_xor_add a b hk]
  simp [BitVec.carry]

/-- Bit `k` is borrowed from exactly where the part of the operand below it is the greater: the difference and the
operand add to `a`, and this sum carries into bit `k` where the difference below it wraps. -/
theorem getLsbD_xor_sub_iff (hk : k < n) :
    (a ^^^ b ^^^ (a - b)).getLsbD k = true ↔ a.toNat % 2 ^ k < b.toNat % 2 ^ k := by
  have hsum : a - b + b = a := BitVec.sub_add_cancel a b
  have hxor : a ^^^ b ^^^ (a - b) = (a - b) ^^^ b ^^^ (a - b + b) := by
    rw [hsum, BitVec.xor_comm, BitVec.xor_comm a, ← BitVec.xor_assoc]
  have htoNat : a.toNat = ((a - b).toNat + b.toNat) % 2 ^ n := by rw [← BitVec.toNat_add, hsum]
  have hlow : a.toNat % 2 ^ k = ((a - b).toNat + b.toNat) % 2 ^ k := by
    rw [htoNat, Nat.mod_mod_of_dvd _ (Nat.pow_dvd_pow 2 hk.le)]
  have hdifference : (a - b).toNat % 2 ^ k < 2 ^ k := Nat.mod_lt _ (Nat.two_pow_pos k)
  rw [hxor, getLsbD_xor_add_iff _ _ hk, hlow]
  rcases Nat.lt_or_ge ((a - b).toNat % 2 ^ k + b.toNat % 2 ^ k) (2 ^ k) with hfits | hwraps
  · rw [Nat.add_mod_of_add_mod_lt hfits]
    omega
  · have hwrapped := Nat.add_mod_add_of_le_add_mod hwraps
    omega

end CarryAndBorrow

/-! ### The H flag of the two functions -/

theorem flagsByte_half (fS fZ fH fN fC : Bool) : (flagsByte fS fZ fH fN fC).getLsbD 4 = fH := by
  obtain ⟨-, -, hhalf, -, -⟩ := flagsByte_getLsbD fS fZ fH fN fC
  exact hhalf

theorem add8_half (a b : Byte) : (add8 a b).2.getLsbD 4 = (a ^^^ b ^^^ (a + b)).getLsbD 4 := by
  rw [add8_eq, flagsByte_half]

theorem sub8_half (a b : Byte) : (sub8 a b).2.getLsbD 4 = (a ^^^ b ^^^ (a - b)).getLsbD 4 := by
  rw [sub8_eq, flagsByte_half]

/-! ### The statements -/

/-- Settles O31: the body writes the result and the flags of `ADD8` to `A` and `F`. -/
theorem addRegister : Obligations.AddRegister := by
  intro q s
  have hexec := exec_add q s
  rw [addReg, add8_eq] at hexec
  obtain ⟨t, hnext, hresult, hothers, hflags, hcells, hframe⟩ := exec_setAF hexec
  refine ⟨encode_add q, decode_add_code_six, t, hnext, hresult, hothers, ?flags, hcells, hframe⟩
  case flags => rw [hresult, hflags]

/-- Settles O32: the body writes the result and the flags of `SUB8` to `A` and `F`. -/
theorem subtractRegister : Obligations.SubtractRegister := by
  intro q s
  have hexec := exec_sub q s
  rw [subReg, sub8_eq] at hexec
  obtain ⟨t, hnext, hresult, hothers, hflags, hcells, hframe⟩ := exec_setAF hexec
  refine ⟨encode_sub q, decode_sub_code_six, t, hnext, hresult, hothers, ?flags, hcells, hframe⟩
  case flags => rw [hresult, hflags]

/-- Settles O33: H is bit 4 of the exclusive or, so the carry into that bit or the borrow from it. -/
theorem halfCarryIsTheNibbleCarry : Obligations.HalfCarryIsTheNibbleCarry := by
  intro a b
  rw [add8_half, sub8_half]
  exact ⟨getLsbD_xor_add_iff a b (k := 4) (by decide), getLsbD_xor_sub_iff a b (k := 4) (by decide)⟩

end Sys2Proof.Machine

/-! PROOFS. The 16-bit additions and subtractions with carry (42 R80 to R82): a body that writes `HL` and `F` leaves
every other register, and with a carry in, bit 12 of the exclusive or of operands and result is still the carry into
that bit, or the borrow from it. -/

namespace Sys2Proof.Machine

/-! ### What a write of `HL` and `F` leaves -/

@[simp] theorem State.setHLF_reg16_hl (s : State) (rf : Word × Byte) : (s.setHLF rf).reg16 .hl = rf.1 :=
  s.setReg16_reg16_same .hl rf.1

theorem setHLF_retire_frame (s : State) (rf : Word × Byte) (len cost : Nat) :
    (s.setHLF rf).retire len cost = { s with
      regs := { s.regs with
        h := ((s.setHLF rf).retire len cost).regs.h
        l := ((s.setHLF rf).retire len cost).regs.l
        f := ((s.setHLF rf).retire len cost).regs.f }
      pc := s.pc + BitVec.ofNat 16 len, pcLeftRange := s.leavesRange len, cyc := s.cyc + cost } := rfl

/-- An instruction that writes a result to `HL` and its flags to `F` changes no other register and no cell. -/
theorem exec_setHLF {s : State} {i : Instr} {r : Word} {f : Byte} {len cost : Nat}
    (hexec : exec i s = .next ((s.setHLF (r, f)).retire len cost)) :
    ∃ t, exec i s = .next t ∧ t.reg16 .hl = r ∧ t.regs.f = f ∧ (∀ a, t.memRead a = s.memRead a) ∧
      t = { s with
        regs := { s.regs with h := t.regs.h, l := t.regs.l, f := t.regs.f }
        pc := s.pc + BitVec.ofNat 16 len, pcLeftRange := s.leavesRange len, cyc := s.cyc + cost } :=
  ⟨_, hexec, s.setHLF_reg16_hl _, rfl, State.memRead_congr rfl, setHLF_retire_frame s _ len cost⟩

/-! ### The carry into a bit and the borrow from it, with a carry in -/

section CarryIn
variable {n : Nat} {a b r : BitVec n} {c : Bool} {k : Nat}

/-- A carry goes into bit `k` exactly where the parts below it and the carry in add to `2 ^ k` or more. -/
theorem getLsbD_xor_add_carry_iff (hk : k < n) (hr : r = a + b + (BitVec.ofBool c).setWidth n) :
    (a ^^^ b ^^^ r).getLsbD k = true ↔ 2 ^ k ≤ a.toNat % 2 ^ k + b.toNat % 2 ^ k + c.toNat := by
  have hbit : (a ^^^ b ^^^ r).getLsbD k = BitVec.carry k a b c := by
    rw [hr, BitVec.getLsbD_xor, BitVec.getLsbD_xor, BitVec.getLsbD_add_add_bool hk]
    cases a.getLsbD k <;> cases b.getLsbD k <;> simp
  rw [hbit]
  simp [BitVec.carry]

/-- The parts below bit `k` of a sum with a carry in add modulo `2 ^ k`. -/
theorem toNat_mod_add_carry (hk : k < n) (hr : r = a + b + (BitVec.ofBool c).setWidth n) :
    r.toNat % 2 ^ k = (a.toNat % 2 ^ k + b.toNat % 2 ^ k + c.toNat) % 2 ^ k := by
  have hdvd : 2 ^ k ∣ 2 ^ n := Nat.pow_dvd_pow 2 hk.le
  have htoNat : r.toNat = (a.toNat + b.toNat + c.toNat) % 2 ^ n := by simp [hr, BitVec.toNat_add]
  rw [htoNat, Nat.mod_mod_of_dvd _ hdvd]
  simp [Nat.add_mod]

/-- Bit `k` is borrowed from exactly where the part of the operand below it and the borrow in are the greater:
difference, operand and borrow in add to `a`, and this sum carries into bit `k` where the difference below it wraps. -/
theorem getLsbD_xor_sub_borrow_iff (hk : k < n) (hr : r = a - b - (BitVec.ofBool c).setWidth n) :
    (a ^^^ b ^^^ r).getLsbD k = true ↔ a.toNat % 2 ^ k < b.toNat % 2 ^ k + c.toNat := by
  have hsum : a = r + b + (BitVec.ofBool c).setWidth n := by
    rw [hr, add_right_comm, BitVec.sub_add_cancel, BitVec.sub_add_cancel]
  have hxor : a ^^^ b ^^^ r = r ^^^ b ^^^ a := by rw [BitVec.xor_comm, BitVec.xor_comm a, ← BitVec.xor_assoc]
  have hdifference : r.toNat % 2 ^ k < 2 ^ k := Nat.mod_lt _ (Nat.two_pow_pos k)
  have hoperand : b.toNat % 2 ^ k < 2 ^ k := Nat.mod_lt _ (Nat.two_pow_pos k)
  have hborrow : c.toNat ≤ 1 := c.toNat_le
  rw [hxor, getLsbD_xor_add_carry_iff hk hsum, toNat_mod_add_carry hk hsum]
  rcases Nat.lt_or_ge (r.toNat % 2 ^ k + b.toNat % 2 ^ k + c.toNat) (2 ^ k) with hfits | hwraps
  · rw [Nat.mod_eq_of_lt hfits]
    omega
  · rw [Nat.mod_eq_sub_mod hwraps, Nat.mod_eq_of_lt (a := _ - _) (by omega)]
    omega

end CarryIn

/-! ### The H flag of `ADC16` and `SBC16` -/

theorem adc16_half {a b r : Word} {c : Bool} (hr : r = BitVec.ofNat 16 (a.toNat + b.toNat + c.toNat)) :
    (adc16 a b c).2.getLsbD 4 = (a ^^^ b ^^^ r).getLsbD 12 := by
  rw [adc16_eq hr, flagsByte_half]

theorem sbc16_half {a b r : Word} {c : Bool} (hr : r = a - b - (if c then 1 else 0)) :
    (sbc16 a b c).2.getLsbD 4 = (a ^^^ b ^^^ r).getLsbD 12 := by
  rw [sbc16_eq hr, flagsByte_half]

/-- The sum of `ADC16`, the carry in as a word. -/
theorem ofNat_add_carry (a b : Word) (c : Bool) :
    BitVec.ofNat 16 (a.toNat + b.toNat + c.toNat) = a + b + (BitVec.ofBool c).setWidth 16 := by
  apply BitVec.eq_of_toNat_eq
  simp [BitVec.toNat_add]

/-- The borrow in of `SBC16` as a word. -/
theorem ite_eq_setWidth_ofBool (c : Bool) : (if c then 1 else 0 : Word) = (BitVec.ofBool c).setWidth 16 := by
  cases c <;> rfl

/-! ### The statements -/

/-- Settles O34: the body writes the result and the flags of `ADC16` to `HL` and `F`. -/
theorem addPairWithCarry : Obligations.AddPairWithCarry := by
  intro p s
  have hexec := exec_adc p s
  rw [adcPair, adc16_eq rfl] at hexec
  obtain ⟨t, hnext, hresult, hflags, hcells, hframe⟩ := exec_setHLF hexec
  refine ⟨encode_adc p, t, hnext, hresult, ?flags, hcells, hframe⟩
  case flags =>
    rw [hresult, hflags]
    rfl

/-- Settles O35: the body writes the result and the flags of `SBC16` to `HL` and `F`. -/
theorem subtractPairWithCarry : Obligations.SubtractPairWithCarry := by
  intro p s
  have hexec := exec_sbc p s
  rw [sbcPair, sbc16_eq rfl] at hexec
  obtain ⟨t, hnext, hresult, hflags, hcells, hframe⟩ := exec_setHLF hexec
  refine ⟨encode_sbc p, t, hnext, hresult, ?flags, hcells, hframe⟩
  case flags =>
    rw [hresult, hflags]
    rfl

/-- Settles O36: H is bit 12 of the exclusive or, so the carry into that bit or the borrow from it. -/
theorem halfCarryIsTheTwelveBitCarry : Obligations.HalfCarryIsTheTwelveBitCarry := by
  intro a b c
  rw [adc16_half rfl, sbc16_half rfl]
  exact ⟨getLsbD_xor_add_carry_iff (k := 12) (by decide) (ofNat_add_carry a b c),
    getLsbD_xor_sub_borrow_iff (k := 12) (by decide) (by rw [ite_eq_setWidth_ofBool])⟩

end Sys2Proof.Machine

/-! PROOFS. The rotates and the shift (43 R86 to R96): the operand is read once and its rotated value written back, so
both forms share the bits of the result and the flags that go with it. -/

namespace Sys2Proof.Machine

section Rotates
variable (s : State) (op : RotOp) (q : Reg8)

/-! ### The flags (43 R86) -/

theorem rotatedFlags_eq (v : Byte) :
    s.rotatedFlags op v =
      flagsByte ((rotate op v s.carry).1.getLsbD 7) (decide ((rotate op v s.carry).1 = 0)) false false
        (if op ∈ s.cfg.rotCarryUntouched then s.carry else shiftedOut op v) := by
  rw [State.rotatedFlags, rotFlags_eq, rotate_shiftedOut]

@[simp] theorem rotateReg_f : (rotateReg op q s).regs.f = s.rotatedFlags op (s.reg8 q) := rfl

@[simp] theorem rotateHl_f : (rotateHl op s).regs.f = s.rotatedFlags op (s.memRead (s.reg16 .hl)) := rfl

/-! ### The operand after the operation -/

theorem rotateReg_reg8_same : (rotateReg op q s).reg8 q = (rotate op (s.reg8 q) s.carry).1 :=
  ((s.setReg8 q _).setF_reg8 _ q).trans (s.setReg8_reg8_same q _)

theorem rotateReg_reg8_other {q' : Reg8} (h : q' ≠ q) : (rotateReg op q s).reg8 q' = s.reg8 q' :=
  ((s.setReg8 q _).setF_reg8 _ q').trans (s.setReg8_reg8_other _ h)

theorem rotateHl_memRead_same (hmem : s.mem.wf = true) :
    (rotateHl op s).memRead (s.reg16 .hl) = (rotate op (s.memRead (s.reg16 .hl)) s.carry).1 := by
  rw [rotateHl_memRead hmem, if_pos rfl]

theorem rotateHl_memRead_other (hmem : s.mem.wf = true) {a : Word} (h : a ≠ s.reg16 .hl) :
    (rotateHl op s).memRead a = s.memRead a := by
  rw [rotateHl_memRead hmem, if_neg h]

/-! ### What each body leaves unchanged -/

theorem rotateReg_frame :
    rotateReg op q s = { s with
      regs := (rotateReg op q s).regs, pc := s.pc + 2, pcLeftRange := s.leavesRange 2, cyc := s.cyc + 8 } := rfl

theorem rotateHl_frame :
    rotateHl op s = { s with
      regs := { s.regs with f := (rotateHl op s).regs.f }
      mem := (rotateHl op s).mem, pc := s.pc + 2, pcLeftRange := s.leavesRange 2, cyc := s.cyc + 12 } := rfl

end Rotates

/-! ### The statements -/

/-- Settles O37: the body writes the rotated value to its register and the flags of R86 to `F`. -/
theorem rotateRegister : Obligations.RotateRegister := by
  intro op q s
  have hresult := rotateReg_reg8_same s op q
  refine ⟨encode_rotReg op q, rotateReg op q s, exec_rotReg op q s, ?bits, ?others, ?flags, ?cells,
    rotateReg_frame s op q⟩
  case bits =>
    intro k hk
    rw [hresult, rotate_getLsbD op _ _ hk, State.carry]
  case others => exact fun q' hother => rotateReg_reg8_other s op q hother
  case flags => rw [rotateReg_f, rotatedFlags_eq, hresult, State.carry]
  case cells => exact State.memRead_congr rfl

/-- Settles O38: the body writes the rotated value to the cell at `HL` and the flags of R86 to `F`. -/
theorem rotateCellAtHl : Obligations.RotateCellAtHl := by
  intro op s hmem
  have hresult := rotateHl_memRead_same s op hmem
  refine ⟨encode_rotHl op, rotateHl op s, exec_rotHl op s, ?bits, ?others, ?flags, rotateHl_frame s op⟩
  case bits =>
    intro k hk
    rw [hresult, rotate_getLsbD op _ _ hk, State.carry]
  case others => exact fun a hother => rotateHl_memRead_other s op hmem hother
  case flags => rw [rotateHl_f, rotatedFlags_eq, hresult, State.carry]

end Sys2Proof.Machine

/-! PROOFS. The bit tests of a register and of the cell at `HL` (44 R100 to R102): whatever the operand, the body writes
`F` alone, so the forms share the clauses on its bits and the frame. -/

namespace Sys2Proof.Machine

theorem setF_retire_frame (s : State) (f : Byte) (len cost : Nat) :
    (s.setF f).retire len cost = { s with
      regs := { s.regs with f := ((s.setF f).retire len cost).regs.f }
      pc := s.pc + BitVec.ofNat 16 len, pcLeftRange := s.leavesRange len, cyc := s.cyc + cost } := rfl

/-- An instruction that tests bit `b` of `v` changes Z, H and S by the bit-test rule, and no other flag, register or
cell. -/
theorem exec_bitTest {s : State} {i : Instr} {v : Byte} {b : Fin 8} {len cost : Nat}
    (hexec : exec i s = .next ((s.setF (bitf s.regs.f v b)).retire len cost)) :
    ∃ t, exec i s = .next t ∧ (t.regs.f.getLsbD 6 = !v.getLsbD b) ∧ t.regs.f.getLsbD 4 = true ∧
      (t.regs.f.getLsbD 7 = (decide (b = 7) && v.getLsbD 7)) ∧
      (∀ k, k ≠ 7 → k ≠ 6 → k ≠ 4 → t.regs.f.getLsbD k = s.regs.f.getLsbD k) ∧
      (∀ a, t.memRead a = s.memRead a) ∧
      t = { s with
        regs := { s.regs with f := t.regs.f }
        pc := s.pc + BitVec.ofNat 16 len, pcLeftRange := s.leavesRange len, cyc := s.cyc + cost } := by
  obtain ⟨-, half, -, kept⟩ := bitTestFlags s.regs.f v b
  exact ⟨_, hexec, bitf_getLsbD s.regs.f v b 6, half, bitf_getLsbD s.regs.f v b 7, kept, State.memRead_congr rfl,
    setF_retire_frame s _ len cost⟩

/-- Settles O40: the value tested is the register's. -/
theorem testBitOfRegister : Obligations.TestBitOfRegister := fun b q s =>
  ⟨encode_bitReg q b, exec_bitTest (exec_bitReg b q s)⟩

/-- Settles O41: the value tested is the cell at `HL`. -/
theorem testBitOfCellAtHl : Obligations.TestBitOfCellAtHl := fun b s =>
  ⟨encode_bitHl b, exec_bitTest (exec_bitHl b s)⟩

end Sys2Proof.Machine

/-! PROOFS. Control transfer (45 R106 to R110): a jump writes `PC` alone, `CALL` pushes the return address and `RET` reads
back what the last push stored. -/

namespace Sys2Proof.Machine

/-! ### The displacement added to an address -/

theorem addDisplacement_toNat (w : Word) (x : Int) : ((addDisplacement w x).toNat : Int) = (w.toNat + x) % 65536 := by
  rw [addDisplacement, BitVec.toNat_add, BitVec.toNat_ofInt]
  omega

/-! ### The guard and the opcode before a step -/

/-- The guard sees the range bit and the parameters alone (50 R140). -/
theorem State.guardFires_congr {s t : State} (hrange : t.pcLeftRange = s.pcLeftRange) (hcfg : t.cfg = s.cfg) :
    t.guardFires = s.guardFires := by
  rw [State.guardFires, State.guardFires, hrange, hcfg]

theorem State.fetched_guardFires (s : State) : s.fetched.guardFires = s.guardFires :=
  (State.guardFires_congr s.enter.countFetch_pcLeftRange s.enter.countFetch_cfg).trans s.enter_guardFires

/-- The opcode of `RET` is decoded whatever bytes follow it. -/
theorem State.fetchDecode_of_ret {s : State} (hopcode : s.memRead s.pc = 0xC9) : s.fetchDecode = .instr .ret := by
  rw [State.fetchDecode, hopcode]
  rfl

/-! ### The body of `CALL` and the word it leaves at the top of the stack -/

theorem State.memRead16_toNat (s : State) (a : Word) :
    (s.memRead16 a).toNat = 256 * (s.memRead (a + 1)).toNat + (s.memRead a).toNat := wordOf_toNat _ _

/-- A read of a word sees only memory. -/
theorem State.memRead16_congr {s t : State} (hmem : t.mem = s.mem) (a : Word) : t.memRead16 a = s.memRead16 a := by
  rw [State.memRead16, State.memRead16, State.memRead_congr hmem, State.memRead_congr hmem]

/-- The body of `CALL nn` (45 R108). -/
def callBody (nn : Word) (s : State) : State := ((s.push (s.pc + 3)).jump nn).charge 17

theorem exec_callNn_eq_callBody (nn : Word) (s : State) : exec (.callNn nn) s = .next (callBody nn s) := by
  rw [exec_callNn, callBody]

section CallBody
variable (nn : Word) (s : State)

@[simp] theorem callBody_pc : (callBody nn s).pc = nn := rfl

@[simp] theorem callBody_sp : (callBody nn s).sp = s.sp - 2 := rfl

@[simp] theorem callBody_pcLeftRange : (callBody nn s).pcLeftRange = s.pcLeftRange := rfl

@[simp] theorem callBody_cfg : (callBody nn s).cfg = s.cfg := rfl

theorem callBody_guardFires : (callBody nn s).guardFires = s.guardFires :=
  State.guardFires_congr (callBody_pcLeftRange nn s) (callBody_cfg nn s)

theorem callBody_memRead {s : State} (a : Word) (hmem : s.mem.wf = true) :
    (callBody nn s).memRead a =
      if a = s.sp - 2 then loByte (s.pc + 3) else if a = s.sp - 1 then hiByte (s.pc + 3) else s.memRead a :=
  State.memRead_push (s.pc + 3) a hmem

/-- The word at the top of the stack is the address of the instruction after the `CALL`. -/
theorem callBody_memRead16_sp {s : State} (hmem : s.mem.wf = true) :
    (callBody nn s).memRead16 (callBody nn s).sp = s.pc + 3 :=
  (State.memRead16_congr (s := s.memWrite16 (s.sp - 2) (s.pc + 3)) rfl (s.sp - 2)).trans
    (State.memRead16_memWrite16 (s.sp - 2) (s.pc + 3) hmem)

theorem callBody_frame :
    callBody nn s = { s with mem := (callBody nn s).mem, sp := s.sp - 2, pc := nn, cyc := s.cyc + 17 } := rfl

end CallBody

/-- A step of `RET` moves the word at the top of the stack to `PC` and raises `SP` past it (45 R109). -/
theorem step_ret {s : State} (hguard : s.guardFires = false) (hopcode : s.memRead s.pc = 0xC9) :
    ∃ u, step s = .next u ∧ u.pc = s.memRead16 s.sp ∧ u.sp = s.sp + 2 := by
  refine ⟨_, (step_eq_exec_fetched hguard (State.fetchDecode_of_ret hopcode)).trans (exec_ret _), ?pc, ?sp⟩
  case pc => rw [State.charge_pc, State.jump_pc, State.fetched_sp, State.memRead16_congr s.fetched_mem]
  case sp => rw [State.charge_sp, State.jump_sp, State.pop_sp, State.fetched_sp]

/-! ### The statements -/

/-- Settles O43: `jump` and `charge` write `PC` and the cycle total. -/
theorem jumpAbsolute : Obligations.JumpAbsolute := by
  intro nn s
  refine ⟨?encoding, exec_jpNn nn s⟩
  case encoding =>
    rw [immediate_eq]
    rfl

/-- Settles O44: the displacement counts from the address after the two bytes, and both additions wrap. -/
theorem jumpRelative : Obligations.JumpRelative := by
  intro e s
  refine ⟨rfl, _, exec_jrE e s, ?target, State.memRead_congr rfl, rfl⟩
  case target =>
    have htarget := addDisplacement_toNat (s.pc + 2) e
    rw [BitVec.toNat_add] at htarget
    exact htarget.trans (by simp)

/-- Settles O45: the cells are those of the push. -/
theorem callPushesTheReturnAddress : Obligations.CallPushesTheReturnAddress := by
  intro nn s hmem
  refine ⟨?encoding, callBody nn s, exec_callNn_eq_callBody nn s, ?cells, callBody_frame nn s⟩
  case encoding =>
    rw [immediate_eq]
    rfl
  case cells =>
    intro a
    rw [callBody_memRead nn a hmem, loByte_eq, hiByte_eq]

/-- Settles O46: the new `PC` is the word read at `SP`. -/
theorem returnPopsTheReturnAddress : Obligations.ReturnPopsTheReturnAddress := fun s =>
  ⟨rfl, _, exec_ret s, s.memRead16_toNat s.sp, State.memRead_congr rfl, rfl⟩

/-- Settles O47: the `CALL` leaves its return address at the top of the stack and the guard as it was, so the `RET` runs
and pops that address. -/
theorem callThenReturnComesBack : Obligations.CallThenReturnComesBack := by
  intro s nn hmem hguard hdecode
  have hcall : step s = .next (callBody nn s.fetched) :=
    (step_eq_exec_fetched hguard hdecode).trans (exec_callNn_eq_callBody nn s.fetched)
  refine ⟨_, hcall, fun hret => ?_⟩
  have hguard' : (callBody nn s.fetched).guardFires = false := by
    rw [callBody_guardFires, State.fetched_guardFires, hguard]
  obtain ⟨u, hstep, hpc, hsp⟩ := step_ret hguard' (by rwa [callBody_pc])
  refine ⟨u, hstep, ?pc, ?sp⟩
  case pc => rw [hpc, callBody_memRead16_sp nn (by rw [State.fetched_mem, hmem]), State.fetched_pc]
  case sp => rw [hsp, callBody_sp, State.fetched_sp, BitVec.sub_add_cancel]

end Sys2Proof.Machine

/-! PROOFS. `NOP`, `SCF`, `HALT` and the unknown opcode (46 R116 to R122), and the decoder on words written out from the
tables of 30 R56 to R60. -/

namespace Sys2Proof.Machine

/-! ### `SCF` -/

/-- `SCF` clears H and N, sets C and keeps every other bit of the flags byte (46 R117). -/
theorem scfFlags_bits (f : Byte) :
    (scfFlags f).getLsbD 4 = false ∧ (scfFlags f).getLsbD 1 = false ∧ (scfFlags f).getLsbD 0 = true ∧
      ∀ k, k ≠ 4 → k ≠ 1 → k ≠ 0 → (scfFlags f).getLsbD k = f.getLsbD k := by
  refine ⟨scfFlags_getLsbD f 4, scfFlags_getLsbD f 1, scfFlags_getLsbD f 0, ?kept⟩
  case kept =>
    intro k h4 h1 h0
    rw [scfFlags_getLsbD, if_neg h4, if_neg h1, if_neg h0]

/-- Settles O48: both retire in 1 byte and 4 cycles, `SCF` after a write of `F` alone. -/
theorem nopAndSetCarry : Obligations.NopAndSetCarry := fun s =>
  ⟨rfl, rfl, exec_nop s, _, exec_scf s, scfFlags_bits s.regs.f, setF_retire_frame s (scfFlags s.regs.f) 1 4⟩

/-! ### `HALT` -/

/-- Every instruction completes, and one that is not `HALT` keeps the run status (46 R116). -/
theorem exec_halt_or_keeps_run (i : Instr) (s : State) : ∃ t, exec i s = .next t ∧ (i = .halt ∨ t.run = s.run) := by
  induction i using byForm with
  | hNop => exact ⟨_, exec_nop s, .inr rfl⟩
  | hHalt => exact ⟨_, exec_halt s, .inl rfl⟩
  | hScf => exact ⟨_, exec_scf s, .inr rfl⟩
  | hJpNn nn => exact ⟨_, exec_jpNn nn s, .inr rfl⟩
  | hJrE e => exact ⟨_, exec_jrE e s, .inr rfl⟩
  | hCallNn nn => exact ⟨_, exec_callNn nn s, .inr rfl⟩
  | hRet => exact ⟨_, exec_ret s, .inr rfl⟩
  | hLdReg q n => exact ⟨_, exec_ldReg q n s, .inr rfl⟩
  | hLdPair p nn => exact ⟨_, exec_ldPair p nn s, .inr (s.setReg16_run p nn)⟩
  | hLdIndBcA => exact ⟨_, exec_ldIndBcA s, .inr rfl⟩
  | hLdIndDeA => exact ⟨_, exec_ldIndDeA s, .inr rfl⟩
  | hStHl q => exact ⟨_, exec_stHl q s, .inr rfl⟩
  | hAdd q => exact ⟨_, exec_add q s, .inr rfl⟩
  | hSub q => exact ⟨_, exec_sub q s, .inr rfl⟩
  | hAdc p => exact ⟨_, exec_adc p s, .inr rfl⟩
  | hSbc p => exact ⟨_, exec_sbc p s, .inr rfl⟩
  | hRotReg op q => exact ⟨_, exec_rotReg op q s, .inr rfl⟩
  | hRotHl op => exact ⟨_, exec_rotHl op s, .inr rfl⟩
  | hBitReg b q => exact ⟨_, exec_bitReg b q s, .inr rfl⟩
  | hBitHl b => exact ⟨_, exec_bitHl b s, .inr rfl⟩
  | hLdIndex x nn => exact ⟨_, exec_ldIndex x nn s, .inr (s.setIndex_run x nn)⟩
  | hStIndex x d => exact ⟨_, exec_stIndex x d s, .inr rfl⟩
  | hSubIndex x d => exact ⟨_, exec_subIndex x d s, .inr rfl⟩
  | hBitIndex x b d => exact ⟨_, exec_bitIndex x b d s, .inr rfl⟩

/-- A new run overwrites the run status, so it does not depend on how the last one ended (50 R138, R147). -/
theorem run_with_run (budget : Nat) (s : State) (status : RunStatus) :
    run budget { s with run := status } = run budget s := by
  have hbegin : State.beginRun { s with run := status } = s.beginRun := rfl
  rw [run, run, runWithin, runWithin, hbegin]

/-- Settles O49: no other form writes the run status, and a later run begins by overwriting it. -/
theorem haltAloneEndsTheRun : Obligations.HaltAloneEndsTheRun := by
  refine ⟨rfl, exec_halt, ?alone, ?later⟩
  case alone =>
    intro i s t hexec hdiffers
    obtain ⟨u, hu, hhalt⟩ := exec_halt_or_keeps_run i s
    obtain rfl := exec_next_unique hexec hu
    exact hhalt.resolve_right hdiffers
  case later => exact fun s t budget _ => (run_with_run budget t s.run).symm

/-! ### Written-out words, and the unknown opcode -/

/-- Settles O8: the dispatch tree evaluated on each word. -/
theorem writtenOutWordsDecode : Obligations.WrittenOutWordsDecode := by
  unfold Obligations.WrittenOutWordsDecode
  decide

/-- Counting an unknown opcode and retiring it, written out (46 R121). -/
theorem countUnknown_retire_eq (s : State) (len cost : Nat) :
    s.countUnknown.retire len cost = { s with
      unkCount := s.unkCount + 1
      pc := s.pc + BitVec.ofNat 16 len, pcLeftRange := s.leavesRange len, cyc := s.cyc + cost } := rfl

/-- Settles O12: the step raises the condition after the fetch, and the default policy skips the length of the level. -/
theorem unknownOpcodeIsSkipped : Obligations.UnknownOpcodeIsSkipped := by
  intro s lv hguard hpolicy hdecode
  rw [step_eq_raiseUnknownOpcode hguard hdecode, raiseUnknownOpcode_nop lv (by rw [State.fetched_cfg, hpolicy]),
    countUnknown_retire_eq, State.fetched_eq]
  cases lv <;> rfl

end Sys2Proof.Machine

/-! PROOFS. The decoder's verdict and the state at reset (30 R61, 10 R28). -/

namespace Sys2Proof.Machine

/-- Settles O6: each level of the dispatch tree was inverted for O7. -/
theorem decodedBytesBeginWithTheEncoding : Obligations.DecodedBytesBeginWithTheEncoding :=
  fun _ _ _ _ _ hdecode => beginWithEncodingOf_of_decode hdecode

/-- Settles O1: reset writes every field as the table of 10 R28 has it, and lists no cell. -/
theorem resetHoldsTheSpecValues : Obligations.ResetHoldsTheSpecValues :=
  ⟨rfl, rfl, rfl, rfl, rfl, rfl, rfl, rfl, rfl, rfl, rfl, rfl, fun _ => rfl⟩

end Sys2Proof.Machine

/-! PROOFS. The index-register instructions (47 R126 to R133): each reads or writes the cell at `index + d`, or writes
the selected register, and leaves the rest of the state but `PC`, the range bit and the cycle total as it was. -/

namespace Sys2Proof.Machine

theorem storeIndexed_frame (x : IndexReg) (d : Int) (s : State) :
    storeIndexed x d s = { s with
      mem := (storeIndexed x d s).mem, pc := s.pc + 3, pcLeftRange := s.leavesRange 3,
      cyc := s.cyc + s.cfg.cycStIdxA } := rfl

/-- Settles O50: the body writes the selected register by `setIndex`. -/
theorem loadIndexImmediate : Obligations.LoadIndexImmediate := by
  intro nn s
  refine ⟨?encoding, exec_ldIndex .ix nn s, exec_ldIndex .iy nn s⟩
  case encoding =>
    intro x
    rw [encode_ldIndex, immediate_eq]

/-- Settles O51: the body stores `A` through the indexed operand. -/
theorem storeAccumulatorIndexed : Obligations.StoreAccumulatorIndexed := fun x d s hmem =>
  ⟨encode_stIndex x d, storeIndexed x d s, exec_stIndex x d s, fun a => storeIndexed_memRead hmem a x d,
    storeIndexed_frame x d s⟩

/-- Settles O52: the body writes the result and the flags of `SUB8` to `A` and `F`. -/
theorem subtractIndexed : Obligations.SubtractIndexed := by
  intro x d s
  have hexec := exec_subIndex x d s
  rw [subIndexed, sub8_eq] at hexec
  exact ⟨encode_subIndex x d, _, hexec, rfl, rfl, State.memRead_congr rfl, rfl⟩

/-- Settles O42: the value tested is the cell at `index + d`. -/
theorem testBitOfIndexedCell : Obligations.TestBitOfIndexedCell := fun x b d s =>
  ⟨encode_bitIndex b x d, exec_bitTest (exec_bitIndex x b d s)⟩

end Sys2Proof.Machine

/-! PROOFS. What every instruction leaves alone: the fields that none reads or writes (10 R12, R21 to R25), the
parameters (00 R7), and, outside the stores, memory (20 R32). A state with other values in the unread fields is
`s.withHidden h n`. -/

namespace Sys2Proof.Machine

/-- Values for the shadow set, `I`, `R`, `IFF` and `unk_count`. -/
structure Hidden where
  shadow : RegSet
  i : Byte
  r : Byte
  iff : Bool
  unkCount : Nat

def State.hidden (s : State) : Hidden where
  shadow := s.shadow
  i := s.i
  r := s.r
  iff := s.iff
  unkCount := s.unkCount

/-- `s` with other values in the hidden fields and the cycle total `n`. -/
def State.withHidden (s : State) (h : Hidden) (n : Nat) : State :=
  { s with shadow := h.shadow, i := h.i, r := h.r, iff := h.iff, unkCount := h.unkCount, cyc := n }

theorem State.withHidden_self (s : State) : s.withHidden s.hidden s.cyc = s := rfl

@[simp] theorem State.withHidden_hidden (s : State) (h : Hidden) (n : Nat) : (s.withHidden h n).hidden = h := rfl

/-- From `s` and from `s` with the hidden fields `h` and the cycle total `n` an instruction leads to states that differ
in those fields alone, each as it was found but for one cost. -/
def LeavesHiddenAlone (i : Instr) (s : State) (h : Hidden) (n : Nat) : Prop :=
  ∃ t cost, exec i s = .next t ∧ t.cfg = s.cfg ∧ t.cyc = s.cyc + cost ∧
    exec i (s.withHidden h n) = .next (t.withHidden h (n + cost))

/-- An instruction whose body keeps the parameters and commutes with a change of the hidden fields. -/
theorem LeavesHiddenAlone.of_body {i : Instr} {s : State} {h : Hidden} {n cost : Nat} {body : State → State}
    (hexec : ∀ u, exec i u = .next (body u)) (hcyc : (body s).cyc = s.cyc + cost) (hcfg : (body s).cfg = s.cfg)
    (hcommutes : body (s.withHidden h n) = (body s).withHidden h (n + cost)) : LeavesHiddenAlone i s h n :=
  ⟨body s, cost, hexec s, hcfg, hcyc, by rw [hexec, hcommutes]⟩

theorem exec_leavesHiddenAlone (i : Instr) (s : State) (h : Hidden) (n : Nat) : LeavesHiddenAlone i s h n := by
  induction i using byForm with
  | hNop => exact .of_body exec_nop rfl rfl rfl
  | hHalt => exact .of_body exec_halt rfl rfl rfl
  | hScf => exact .of_body exec_scf rfl rfl rfl
  | hJpNn nn => exact .of_body (exec_jpNn nn) rfl rfl rfl
  | hJrE e => exact .of_body (exec_jrE e) rfl rfl rfl
  | hCallNn nn => exact .of_body (exec_callNn nn) rfl rfl rfl
  | hRet => exact .of_body exec_ret rfl rfl rfl
  | hLdReg q v => exact .of_body (exec_ldReg q v) (loadReg_cyc s q v) rfl rfl
  | hLdPair p nn =>
    exact .of_body (exec_ldPair p nn) (loadPair_cyc s p nn) (s.setReg16_cfg p nn) (by cases p <;> rfl)
  | hLdIndBcA => exact .of_body exec_ldIndBcA (storeVia_cyc s .bc .a) rfl rfl
  | hLdIndDeA => exact .of_body exec_ldIndDeA (storeVia_cyc s .de .a) rfl rfl
  | hStHl q => exact .of_body (exec_stHl q) (storeVia_cyc s .hl q) rfl rfl
  | hAdd q => exact .of_body (exec_add q) (addReg_cyc s q) rfl rfl
  | hSub q => exact .of_body (exec_sub q) (subReg_cyc s q) rfl rfl
  | hAdc p => exact .of_body (exec_adc p) (adcPair_cyc s p) rfl rfl
  | hSbc p => exact .of_body (exec_sbc p) (sbcPair_cyc s p) rfl rfl
  | hRotReg op q => exact .of_body (exec_rotReg op q) (rotateReg_cyc s op q) rfl rfl
  | hRotHl op => exact .of_body (exec_rotHl op) (rotateHl_cyc s op) rfl rfl
  | hBitReg b q => exact .of_body (exec_bitReg b q) (testReg_cyc s b q) rfl rfl
  | hBitHl b => exact .of_body (exec_bitHl b) (testMem_cyc s b .hl 2 12) rfl rfl
  | hLdIndex x nn =>
    exact .of_body (exec_ldIndex x nn) (loadIndex_cyc s x nn) (s.setIndex_cfg x nn) (by cases x <;> rfl)
  | hStIndex x d => exact .of_body (exec_stIndex x d) (storeIndexed_cyc s x d) rfl rfl
  | hSubIndex x d => exact .of_body (exec_subIndex x d) (subIndexed_cyc s x d) rfl rfl
  | hBitIndex x b d => exact .of_body (exec_bitIndex x b d) (testMem_cyc s b (.indexed x d) 4 20) rfl rfl

/-- Every instruction completes, and keeps the hidden fields and the parameters: a change of the hidden fields to what
they hold already is no change, and they come out as they were set. -/
theorem exec_keeps_hidden (i : Instr) (s : State) : ∃ t, exec i s = .next t ∧ t.hidden = s.hidden ∧ t.cfg = s.cfg := by
  obtain ⟨t, cost, hexec, hcfg, -, hother⟩ := exec_leavesHiddenAlone i s s.hidden s.cyc
  rw [State.withHidden_self] at hother
  refine ⟨t, hexec, ?_, hcfg⟩
  rw [exec_next_unique hexec hother, State.withHidden_hidden]

/-- Settles O16. -/
theorem everyInstructionCompletes : Obligations.EveryInstructionCompletes := by
  intro i s
  obtain ⟨t, hexec, -⟩ := exec_keeps_hidden i s
  exact ⟨t, hexec⟩

/-- Settles O19: the five hidden fields are kept, and the parameters. -/
theorem noInstructionWritesHiddenRegisters : Obligations.NoInstructionWritesHiddenRegisters := by
  intro i s
  obtain ⟨t, hexec, hhidden, hcfg⟩ := exec_keeps_hidden i s
  exact ⟨t, hexec, congrArg Hidden.shadow hhidden, congrArg Hidden.i hhidden, congrArg Hidden.r hhidden,
    congrArg Hidden.iff hhidden, congrArg Hidden.unkCount hhidden, hcfg⟩

/-- Settles O20: the other state is `s.withHidden _ n`, and the cost is what the cycle total rose by. -/
theorem hiddenRegistersInfluenceNothing : Obligations.HiddenRegistersInfluenceNothing := by
  intro i s t g v w b m n hexec
  obtain ⟨u, cost, hu, -, hcyc, hother⟩ := exec_leavesHiddenAlone i s ⟨g, v, w, b, m⟩ n
  obtain rfl := exec_next_unique hexec hu
  obtain rfl : cost = t.cyc - s.cyc := by omega
  exact hother

/-- An instruction of the list of 20 R32 writes memory, and every other one keeps it. -/
theorem exec_writesMemory_or_keeps (i : Instr) (s : State) :
    ∃ t, exec i s = .next t ∧ (writesMemory i ∨ t.mem = s.mem) := by
  induction i using byForm with
  | hNop => exact ⟨_, exec_nop s, .inr rfl⟩
  | hHalt => exact ⟨_, exec_halt s, .inr rfl⟩
  | hScf => exact ⟨_, exec_scf s, .inr rfl⟩
  | hJpNn nn => exact ⟨_, exec_jpNn nn s, .inr rfl⟩
  | hJrE e => exact ⟨_, exec_jrE e s, .inr rfl⟩
  | hCallNn nn => exact ⟨_, exec_callNn nn s, .inl (by simp [writesMemory])⟩
  | hRet => exact ⟨_, exec_ret s, .inr rfl⟩
  | hLdReg q n => exact ⟨_, exec_ldReg q n s, .inr rfl⟩
  | hLdPair p nn => exact ⟨_, exec_ldPair p nn s, .inr (s.setReg16_mem p nn)⟩
  | hLdIndBcA => exact ⟨_, exec_ldIndBcA s, .inl (by simp [writesMemory])⟩
  | hLdIndDeA => exact ⟨_, exec_ldIndDeA s, .inl (by simp [writesMemory])⟩
  | hStHl q => exact ⟨_, exec_stHl q s, .inl (by simp [writesMemory])⟩
  | hAdd q => exact ⟨_, exec_add q s, .inr rfl⟩
  | hSub q => exact ⟨_, exec_sub q s, .inr rfl⟩
  | hAdc p => exact ⟨_, exec_adc p s, .inr rfl⟩
  | hSbc p => exact ⟨_, exec_sbc p s, .inr rfl⟩
  | hRotReg op q => exact ⟨_, exec_rotReg op q s, .inr rfl⟩
  | hRotHl op => exact ⟨_, exec_rotHl op s, .inl (by simp [writesMemory])⟩
  | hBitReg b q => exact ⟨_, exec_bitReg b q s, .inr rfl⟩
  | hBitHl b => exact ⟨_, exec_bitHl b s, .inr rfl⟩
  | hLdIndex x nn => exact ⟨_, exec_ldIndex x nn s, .inr (s.setIndex_mem x nn)⟩
  | hStIndex x d => exact ⟨_, exec_stIndex x d s, .inl (by simp [writesMemory])⟩
  | hSubIndex x d => exact ⟨_, exec_subIndex x d s, .inr rfl⟩
  | hBitIndex x b d => exact ⟨_, exec_bitIndex x b d s, .inr rfl⟩

/-- Settles O23: a read sees only memory. -/
theorem memoryKeptOutsideTheStores : Obligations.MemoryKeptOutsideTheStores := by
  intro i s
  obtain ⟨t, hexec, hmem⟩ := exec_writesMemory_or_keeps i s
  exact ⟨t, hexec, fun hother => State.memRead_congr (hmem.resolve_left hother)⟩

end Sys2Proof.Machine

/-! PROOFS. What a step does to the run (50 R138 to R140): the guard ends it, `HALT` ends it, and every other step
charges a cost and goes on. -/

namespace Sys2Proof.Machine

@[simp] theorem State.fetched_run (s : State) : s.fetched.run = .inProgress := s.enter_run

@[simp] theorem State.fetched_pcLeftRange (s : State) : s.fetched.pcLeftRange = s.pcLeftRange := s.enter_pcLeftRange

/-! ### The boundary guard -/

theorem State.guardFires_iff (s : State) : s.guardFires = true ↔ s.cfg.pcOverflow = .stop ∧ s.pcLeftRange = true := by
  rw [State.guardFires, Bool.and_eq_true, decide_eq_true_eq]

theorem step_eq_endRun {s : State} (hguard : s.guardFires = true) :
    step s = .next (s.enter.endRun .addressOutOfRange) := by
  rw [step, iterate, if_pos (s.enter_guardFires.trans hguard)]

/-- The end of a run in an iteration that enters it, written out (log entry 2). -/
theorem State.enter_endRun_eq (s : State) (reason : StopReason) : s.enter.endRun reason = { s with
    run := .returned reason
    cyc := if s.run = .inProgress then s.cyc else s.cfg.runEntryCycles } := by
  by_cases hrun : s.run = .inProgress
  · rw [s.enter_of_inProgress hrun, if_pos hrun]
    rfl
  · rw [s.enter_of_not_inProgress hrun, if_neg hrun]
    rfl

/-- Settles O14: a guarded iteration enters the run and ends it. -/
theorem boundaryGuardEndsTheRun : Obligations.BoundaryGuardEndsTheRun := fun s =>
  ⟨s.guardFires_iff, fun hguard => by rw [step_eq_endRun hguard, State.enter_endRun_eq]⟩

/-! ### What a step leaves -/

/-- What an instruction is said to leave, its one answer is. -/
theorem of_exec_next {i : Instr} {s t : State} {P : State → Prop} (hspec : ∃ u, exec i s = .next u ∧ P u)
    (hexec : exec i s = .next t) : P t := by
  obtain ⟨u, hu, hleft⟩ := hspec
  rwa [exec_next_unique hexec hu]

/-- `HALT` ends the run, and every other instruction keeps the run status (46 R116). -/
theorem exec_run (i : Instr) (s : State) :
    ∃ t, exec i s = .next t ∧ t.run = if i = .halt then .returned .halt else s.run := by
  by_cases hhalt : i = .halt
  · rw [hhalt, if_pos rfl]
    exact ⟨_, exec_halt s, rfl⟩
  · obtain ⟨t, hexec, hkept⟩ := exec_halt_or_keeps_run i s
    exact ⟨t, hexec, (hkept.resolve_left hhalt).trans (if_neg hhalt).symm⟩

/-- The condition is answered with a state only where it is skipped (46 R121). -/
theorem eq_of_raiseUnknownOpcode {lv : Level} {s t : State} (hraise : raiseUnknownOpcode lv s = .next t) :
    t = s.countUnknown.retire (unknownLength lv) 4 := by
  cases hpolicy : s.cfg.unlisted with
  | unknownNop =>
    rw [raiseUnknownOpcode_nop lv hpolicy] at hraise
    exact (Host.Outcome.next.inj hraise).symm
  | refuse =>
    rw [raiseUnknownOpcode_refuse lv hpolicy] at hraise
    contradiction

/-- What a step that leads from `s` to `t` does to the run: the guard ends it; or an instruction or an unknown opcode
charges a cost, after which it goes on unless that was `HALT`. -/
inductive StepEffect (s t : State) : Prop where
  | guarded (hguard : s.guardFires = true) (hended : t = s.enter.endRun .addressOutOfRange)
  | charged (cost : Nat) (hcost : InstrCost s.cfg cost) (hcyc : t.cyc = s.enter.cyc + cost) (hcfg : t.cfg = s.cfg)
      (hrun : t.run = .inProgress ∨ t.run = .returned .halt)

theorem stepEffect_of_exec {s t : State} {i : Instr} (hexec : exec i s.fetched = .next t) : StepEffect s t := by
  obtain ⟨u, cost, hu, hcyc, hcost⟩ := exec_charges_instrCost i s.fetched
  obtain rfl := exec_next_unique hexec hu
  obtain ⟨-, hcfg⟩ := of_exec_next (exec_keeps_hidden i s.fetched) hexec
  rw [State.fetched_cfg] at hcost hcfg
  refine .charged cost hcost hcyc hcfg ?_
  rw [of_exec_next (exec_run i s.fetched) hexec, State.fetched_run]
  split
  · exact .inr rfl
  · exact .inl rfl

theorem stepEffect_of_raiseUnknownOpcode {s t : State} {lv : Level}
    (hraise : raiseUnknownOpcode lv s.fetched = .next t) : StepEffect s t := by
  obtain rfl := eq_of_raiseUnknownOpcode hraise
  exact .charged 4 (.fixed (by decide)) rfl s.fetched_cfg (.inl s.fetched_run)

theorem stepEffect_of_step {s t : State} (hstep : step s = .next t) : StepEffect s t := by
  rcases step_cases s with ⟨hguard, hended⟩ | ⟨-, i, -, hexec⟩ | ⟨-, lv, -, hraise⟩
  · exact .guarded hguard (Host.Outcome.next.inj (hstep.symm.trans hended))
  · exact stepEffect_of_exec (hexec.symm.trans hstep)
  · exact stepEffect_of_raiseUnknownOpcode (hraise.symm.trans hstep)

section StepEffects
variable {s t : State} (hstep : step s = .next t)
include hstep

theorem step_keeps_cfg : t.cfg = s.cfg := by
  cases stepEffect_of_step hstep with
  | guarded _ hended => rw [hended, State.endRun_cfg, State.enter_cfg]
  | charged _ _ _ hcfg _ => exact hcfg

/-- A step ends the run for one of two reasons, or leaves it in progress. -/
theorem step_run : t.run = .inProgress ∨ t.run = .returned .halt ∨ t.run = .returned .addressOutOfRange := by
  cases stepEffect_of_step hstep with
  | guarded _ hended => exact .inr (.inr (by rw [hended, State.endRun_run]))
  | charged _ _ _ _ hrun => exact hrun.imp_right .inl

/-- The budget is the loop's to compare, not the step's (50 R138). -/
theorem step_run_ne_budgetExhausted : t.run ≠ .returned .budgetExhausted := by
  rcases step_run hstep with hrun | hrun | hrun <;> simp [hrun]

theorem step_cyc_le (hrun : s.run = .inProgress) (hbounded : s.cfg.costsBounded = true) : t.cyc ≤ s.cyc + 20 := by
  rw [← s.enter_of_inProgress hrun]
  cases stepEffect_of_step hstep with
  | guarded _ hended =>
    rw [hended, State.endRun_cyc]
    exact Nat.le_add_right _ 20
  | charged cost hcost hcyc _ _ =>
    obtain ⟨-, hupper⟩ := hcost.bounds hbounded
    omega

end StepEffects

/-- Where unlisted encodings are skipped, every step completes. -/
theorem step_completes {s : State} (hpolicy : s.cfg.unlisted = .unknownNop) : ∃ t, step s = .next t := by
  rcases step_cases s with ⟨-, hended⟩ | ⟨-, i, -, hexec⟩ | ⟨-, lv, -, hraise⟩
  · exact ⟨_, hended⟩
  · obtain ⟨t, ht⟩ := everyInstructionCompletes i s.fetched
    exact ⟨t, hexec.trans ht⟩
  · exact ⟨_, hraise.trans (raiseUnknownOpcode_nop lv (by rw [State.fetched_cfg, hpolicy]))⟩

/-! ### The range bit under `PC_OVERFLOW = wrap` -/

theorem exec_keeps_pcLeftRange_of_wrap {i : Instr} {s t : State} (hwrap : s.cfg.pcOverflow = .wrap)
    (hexec : exec i s = .next t) : t.pcLeftRange = s.pcLeftRange := by
  cases of_exec_next (exec_moves_pc i s) hexec with
  | advanced len _ _ hrange => rw [hrange, State.leavesRange_of_wrap len hwrap]
  | transferred _ hrange => exact hrange

theorem step_keeps_pcLeftRange_of_wrap {s t : State} (hwrap : s.cfg.pcOverflow = .wrap) (hstep : step s = .next t) :
    t.pcLeftRange = s.pcLeftRange := by
  have hfetched : s.fetched.cfg.pcOverflow = .wrap := by rw [State.fetched_cfg, hwrap]
  rw [← s.fetched_pcLeftRange]
  rcases step_cases s with ⟨hguard, -⟩ | ⟨-, i, -, hexec⟩ | ⟨-, lv, -, hraise⟩
  · rw [State.guardFires_of_wrap hwrap] at hguard
    contradiction
  · exact exec_keeps_pcLeftRange_of_wrap hfetched (hexec.symm.trans hstep)
  · obtain rfl := eq_of_raiseUnknownOpcode (hraise.symm.trans hstep)
    exact State.leavesRange_of_wrap (s := s.fetched.countUnknown) _ hfetched

/-- Settles O15: the guard, which alone ends a run with that reason, never fires, and no advance sets the bit. -/
theorem wrapNeverLeavesTheRange : Obligations.WrapNeverLeavesTheRange := by
  intro s t hwrap hstep
  refine ⟨?reason, step_keeps_pcLeftRange_of_wrap hwrap hstep⟩
  case reason =>
    cases stepEffect_of_step hstep with
    | guarded hguard _ =>
      rw [State.guardFires_of_wrap hwrap] at hguard
      contradiction
    | charged _ _ _ _ hrun => rcases hrun with hrun | hrun <;> simp [hrun]

end Sys2Proof.Machine

/-! PROOFS. The run loop (50 R138, R139, R146, 60 R156): what one iteration does, and from it the bounds on a run's
cycle total and on the number of its iterations. -/

namespace Sys2Proof.Machine

/-! ### One iteration -/

section Iterations
variable {budget : Nat} {s t : State} (fuel : Nat)

theorem runLoop_of_spent (hspent : budget ≤ s.cyc) :
    runLoop (fuel + 1) budget s = .returned s.cyc .budgetExhausted (s.endRun .budgetExhausted) := by
  rw [runLoop, if_pos hspent]

variable (hleft : s.cyc < budget)
include hleft

theorem runLoop_of_ended {reason : StopReason} (hstep : step s = .next t) (hrun : t.run = .returned reason) :
    runLoop (fuel + 1) budget s = .returned t.cyc reason t := by
  simp [runLoop, hleft, hstep, hrun]

theorem runLoop_of_goesOn (hstep : step s = .next t) (hrun : t.run = .inProgress) :
    runLoop (fuel + 1) budget s = runLoop fuel budget t := by
  simp [runLoop, hleft, hstep, hrun]

theorem runLoop_of_refused {reason : Refusal} (hstep : step s = .refused reason) :
    runLoop (fuel + 1) budget s = .refused reason s := by
  simp [runLoop, hleft, hstep]

end Iterations

/-- Everything an iteration of a run can do, whatever number of iterations follows it. -/
inductive Iteration (budget : Nat) (s : State) : Prop where
  | spent (hspent : budget ≤ s.cyc) (hloop : ∀ fuel,
      runLoop (fuel + 1) budget s = .returned s.cyc .budgetExhausted (s.endRun .budgetExhausted))
  | ended (t : State) (reason : StopReason) (hleft : s.cyc < budget) (hstep : step s = .next t)
      (hrun : t.run = .returned reason) (hloop : ∀ fuel, runLoop (fuel + 1) budget s = .returned t.cyc reason t)
  | goesOn (t : State) (hleft : s.cyc < budget) (hstep : step s = .next t) (hrun : t.run = .inProgress)
      (hloop : ∀ fuel, runLoop (fuel + 1) budget s = runLoop fuel budget t)
  | refused (reason : Refusal) (hstep : step s = .refused reason)
      (hloop : ∀ fuel, runLoop (fuel + 1) budget s = .refused reason s)

theorem iteration (budget : Nat) (s : State) : Iteration budget s := by
  rcases Nat.lt_or_ge s.cyc budget with hleft | hspent
  · cases hstep : step s with
    | next t =>
      rcases step_run hstep with hrun | hrun | hrun
      · exact .goesOn t hleft hstep hrun fun fuel => runLoop_of_goesOn fuel hleft hstep hrun
      · exact .ended t _ hleft hstep hrun fun fuel => runLoop_of_ended fuel hleft hstep hrun
      · exact .ended t _ hleft hstep hrun fun fuel => runLoop_of_ended fuel hleft hstep hrun
    | fault r => exact nomatch r
    | refused r => exact .refused r hstep fun fuel => runLoop_of_refused fuel hleft hstep
  · exact .spent hspent fun fuel => runLoop_of_spent fuel hspent

/-- Settles O56: the clauses are the iteration's equations, `t` being what the step leaves. -/
theorem anIterationChecksInOrder : Obligations.AnIterationChecksInOrder := by
  intro fuel budget s hrun
  have henter := s.enter_of_inProgress hrun
  refine ⟨runLoop_of_spent fuel, ?guard, ?instruction, ?unknown⟩
  case guard =>
    intro hleft hguard
    have hstep := step_eq_endRun hguard
    rw [henter] at hstep
    exact runLoop_of_ended fuel hleft hstep rfl
  case instruction =>
    intro i hleft hguard hdecode
    obtain ⟨t, hexec, hrun'⟩ := exec_run i s.fetched
    have hstep := (step_eq_exec_fetched hguard hdecode).trans hexec
    refine ⟨t, hexec, ?_⟩
    split_ifs at hrun' ⊢
    · exact runLoop_of_ended fuel hleft hstep hrun'
    · exact runLoop_of_goesOn fuel hleft hstep (hrun'.trans s.fetched_run)
  case unknown =>
    intro lv hleft hguard hdecode hpolicy
    have hraise := raiseUnknownOpcode_nop (s := s.fetched) lv (by rw [State.fetched_cfg, hpolicy])
    have hstep := (step_eq_raiseUnknownOpcode hguard hdecode).trans hraise
    exact ⟨_, hraise, runLoop_of_goesOn fuel hleft hstep s.fetched_run⟩

/-! ### The cycle total of a run -/

/-- What a run that returns leaves (50 R139). -/
structure ReturnsWithin (budget cycles : Nat) (reason : StopReason) (t : State) : Prop where
  overshoot : cycles ≤ budget + 19
  spent : reason = .budgetExhausted → budget ≤ cycles
  total : t.cyc = cycles
  recorded : t.run = .returned reason

/-- The budget is compared before each instruction, so the last one starts below it and costs at most 20. -/
theorem returnsWithin_of_runLoop {fuel budget cycles : Nat} {reason : StopReason} {s t : State}
    (hrun : s.run = .inProgress) (hbounded : s.cfg.costsBounded = true) (hcyc : s.cyc ≤ budget + 19)
    (hreturned : runLoop fuel budget s = .returned cycles reason t) : ReturnsWithin budget cycles reason t := by
  induction fuel generalizing s with
  | zero => cases hreturned
  | succ fuel ih =>
    cases iteration budget s with
    | spent hspent hloop =>
      rw [hloop] at hreturned
      cases hreturned
      exact ⟨hcyc, fun _ => hspent, rfl, rfl⟩
    | ended u _ hleft hstep hended hloop =>
      have hupper := step_cyc_le hstep hrun hbounded
      rw [hloop] at hreturned
      cases hreturned
      refine ⟨by omega, fun hspent => ?_, rfl, hended⟩
      exact absurd (hspent ▸ hended) (step_run_ne_budgetExhausted hstep)
    | goesOn u hleft hstep hgoesOn hloop =>
      have hupper := step_cyc_le hstep hrun hbounded
      rw [hloop] at hreturned
      exact ih hgoesOn (by rw [step_keeps_cfg hstep, hbounded]) (by omega) hreturned
    | refused r _ hloop =>
      rw [hloop] at hreturned
      cases hreturned

/-- Settles O53: a run begins with a total of 0. -/
theorem runOvershootsByAtMostOneInstruction : Obligations.RunOvershootsByAtMostOneInstruction := by
  intro fuel budget cycles reason s t hentry hbounded hreturned
  have hcyc : s.beginRun.cyc ≤ budget + 19 := by rw [State.beginRun_cyc, hentry]; omega
  obtain ⟨hovershoot, hspent, htotal, hrecorded⟩ := returnsWithin_of_runLoop s.beginRun_run hbounded hcyc hreturned
  exact ⟨hovershoot, hspent, htotal, hrecorded⟩

/-! ### The number of iterations of a run -/

/-- Where every step completes and charges `least` cycles or more, the budget is spent after as many iterations as
`least` goes into what is left of it, and the iteration after them finds it spent. -/
theorem runLoop_returns {c : Config} {least : Nat} (hpolicy : c.unlisted = .unknownNop)
    (hleast : ∀ cost, InstrCost c cost → least ≤ cost) {fuel budget : Nat} {s : State} (hcfg : s.cfg = c)
    (hrun : s.run = .inProgress) (hfuel : budget ≤ s.cyc + least * fuel) :
    ∃ cycles reason t, runLoop (fuel + 1) budget s = .returned cycles reason t := by
  induction fuel generalizing s with
  | zero => exact ⟨_, _, _, runLoop_of_spent 0 (by omega)⟩
  | succ fuel ih =>
    cases iteration budget s with
    | spent _ hloop => exact ⟨_, _, _, hloop _⟩
    | ended _ _ _ _ _ hloop => exact ⟨_, _, _, hloop _⟩
    | goesOn t _ hstep hgoesOn hloop =>
      rw [hloop]
      cases stepEffect_of_step hstep with
      | guarded _ hguarded => simp [hguarded] at hgoesOn
      | charged cost hcost hcharged hcfg' _ =>
        have hlower := hleast cost (hcfg ▸ hcost)
        rw [s.enter_of_inProgress hrun] at hcharged
        refine ih (hcfg'.trans hcfg) hgoesOn ?_
        rw [hcharged]
        linarith [Nat.mul_succ least fuel]
    | refused r hstep _ =>
      obtain ⟨t, ht⟩ := step_completes (s := s) (by rw [hcfg, hpolicy])
      rw [hstep] at ht
      cases ht

/-- Settles O54: every cost is 4 or more. -/
theorem runReturnsWithinAQuarterOfItsBudget : Obligations.RunReturnsWithinAQuarterOfItsBudget := by
  intro budget s hpolicy hbounded
  exact runLoop_returns (s := s.beginRun) hpolicy (fun _ hcost => (hcost.bounds hbounded).1) rfl rfl (by omega)

theorem InstrCost.pos {c : Config} {n : Nat} (hcost : InstrCost c n) (hpositive : c.costsPositive = true) : 1 ≤ n := by
  simp only [Config.costsPositive, Bool.and_eq_true, decide_eq_true_eq] at hpositive
  cases hcost with
  | fixed hmem =>
    have hfixed : ∀ m ∈ [4, 7, 8, 10, 12, 15, 17, 20], 1 ≤ m := by decide
    exact hfixed n hmem
  | ldIdxNn => omega
  | stIdxA => omega
  | subIdx => omega

/-- A return, once found, is found however many more iterations are allowed. -/
theorem runLoop_add_of_returned {fuel budget cycles : Nat} {reason : StopReason} {s t : State} (more : Nat)
    (hreturned : runLoop fuel budget s = .returned cycles reason t) :
    runLoop (fuel + more) budget s = .returned cycles reason t := by
  induction fuel generalizing s with
  | zero => cases hreturned
  | succ fuel ih =>
    rw [Nat.add_right_comm]
    cases iteration budget s with
    | spent _ hloop => rw [hloop] at hreturned ⊢; exact hreturned
    | ended _ _ _ _ _ hloop => rw [hloop] at hreturned ⊢; exact hreturned
    | goesOn _ _ _ _ hloop => rw [hloop] at hreturned ⊢; exact ih hreturned
    | refused _ _ hloop => rw [hloop] at hreturned ⊢; exact hreturned

/-- Settles O55: every cost is 1 or more, and a return stays the same. -/
theorem runIsFollowedToItsEnd : Obligations.RunIsFollowedToItsEnd := by
  refine ⟨?returns, ?stays⟩
  case returns =>
    intro budget s hpolicy hpositive
    exact runLoop_returns (s := s.beginRun) hpolicy (fun _ hcost => hcost.pos hpositive) rfl rfl (by omega)
  case stays => exact fun _ more _ _ _ _ _ hreturned => runLoop_add_of_returned more hreturned

/-! ### The budgets 0 and 1 -/

/-- Settles O58: the start of a run overwrites the run status and the cycle total. -/
theorem everyRunStartsAfresh : Obligations.EveryRunStartsAfresh := by
  refine ⟨fun s => runLoop_of_spent 0 (Nat.zero_le s.beginRun.cyc), fun budget n status s => ?_⟩
  have hbegin : State.beginRun { s with run := status, cyc := n } = s.beginRun := rfl
  rw [run, run, runWithin, runWithin, hbegin]

section BudgetOne
variable {s : State} (hentry : s.cfg.runEntryCycles = 0)
include hentry

theorem beginRun_cyc_lt_one : s.beginRun.cyc < 1 := by
  rw [State.beginRun_cyc, hentry]
  exact Nat.one_pos

/-- What a fetch leaves as the first of a run. -/
theorem beginRun_fetched_eq : s.beginRun.fetched = { s with
    r := BitVec.ofNat 8 ((s.r.toNat + 1) % 128), run := .inProgress, cyc := 0 } := by
  rw [State.fetched_eq, if_pos s.beginRun_run, State.beginRun_cyc, hentry]
  rfl

/-- An instruction of the first iteration costs at least 4 cycles, which spends the budget, unless it ends the run. -/
theorem run_one_of_instr {i : Instr} (hguard : s.guardFires = false) (hbounded : s.cfg.costsBounded = true)
    (hdecode : s.fetchDecode = .instr i) :
    ∃ t, exec i s.beginRun.fetched = .next t ∧
      run 1 s = .returned t.cyc (if i = .halt then .halt else .budgetExhausted)
        { t with run := .returned (if i = .halt then .halt else .budgetExhausted) } := by
  obtain ⟨-, -, hinstr, -⟩ := anIterationChecksInOrder 1 1 s.beginRun s.beginRun_run
  obtain ⟨t, hexec, hloop⟩ := hinstr i (beginRun_cyc_lt_one hentry) hguard hdecode
  refine ⟨t, hexec, Eq.trans hloop ?_⟩
  split_ifs with hhalt
  · have hrun := of_exec_next (exec_run i s.beginRun.fetched) hexec
    rw [if_pos hhalt] at hrun
    rw [← hrun]
  · have hcosts : s.beginRun.fetched.cfg.costsBounded = true := by rw [State.fetched_cfg]; exact hbounded
    obtain ⟨hlower, -⟩ := of_exec_next (everyCostIsFourToTwenty i s.beginRun.fetched hcosts) hexec
    exact runLoop_of_spent 0 (by omega)

theorem run_one_of_unknown {lv : Level} (hguard : s.guardFires = false) (hpolicy : s.cfg.unlisted = .unknownNop)
    (hdecode : s.fetchDecode = .unknown lv) :
    run 1 s = .returned 4 .budgetExhausted { s with
      r := BitVec.ofNat 8 ((s.r.toNat + 1) % 128)
      unkCount := s.unkCount + 1
      pc := s.pc + BitVec.ofNat 16 (unknownLength lv)
      pcLeftRange := s.leavesRange (unknownLength lv)
      cyc := 4
      run := .returned .budgetExhausted } := by
  obtain ⟨-, -, -, hunknown⟩ := anIterationChecksInOrder 1 1 s.beginRun s.beginRun_run
  obtain ⟨t, hraise, hloop⟩ := hunknown lv (beginRun_cyc_lt_one hentry) hguard hdecode hpolicy
  obtain rfl := eq_of_raiseUnknownOpcode hraise
  rw [beginRun_fetched_eq hentry] at hloop
  exact hloop.trans (runLoop_of_spent 0 (Nat.le_of_ble_eq_true rfl))

end BudgetOne

/-- Settles O57. -/
theorem runWithBudgetOneIsASingleStep : Obligations.RunWithBudgetOneIsASingleStep := by
  intro s hentry hguard
  refine ⟨fun i hbounded hdecode => run_one_of_instr hentry hguard hbounded hdecode, fun lv hpolicy hdecode => ?unknown⟩
  case unknown =>
    rw [run_one_of_unknown hentry hguard hpolicy hdecode]
    cases lv <;> rfl

end Sys2Proof.Machine

/-! PROOFS. The host's side (50 R141 to R145): the loader, and which moves the host has in each phase of the arbiter. -/

namespace Sys2Proof.Machine

/-! ### The loader (50 R141) -/

theorem State.load_of_tooLong (s : State) {bytes : List Byte} (hlong : 65536 < bytes.length) :
    s.load (some bytes) = (.loadTooLarge, s) := by
  rw [State.load, if_pos hlong]

theorem State.load_of_fits (s : State) {bytes : List Byte} (hfits : bytes.length ≤ 65536) :
    s.load (some bytes) = (.ok, { s with mem := s.mem.writeBytes 0 bytes }) := by
  rw [State.load, if_neg (by omega)]

/-- Settles O59: the image is written from address 0 on. -/
theorem loaderCopiesTheImage : Obligations.LoaderCopiesTheImage := by
  intro s hmem
  refine ⟨rfl, fun _ => s.load_of_tooLong, fun bytes hfits => ⟨_, s.load_of_fits hfits, ?image, ?others, rfl⟩⟩
  case image =>
    intro k hk
    rw [State.memRead, BitVec.toNat_ofNat, Nat.mod_eq_of_lt (by omega)]
    simpa using Memory.read_writeBytes_at (a := 0) hmem (by omega) hk
  case others =>
    intro a ha
    have hkept : (s.mem.writeBytes 0 bytes).read a.toNat = s.mem.read a.toNat :=
      Memory.read_writeBytes_other (.inr (by omega))
    refine ⟨hkept, fun hfresh => hkept.trans ?_⟩
    rw [hfresh]
    rfl

/-! ### The table of moves (50 R145) -/

section HostMoves
variable {s : State}

theorem hostMove_of_inProgress (hrun : s.run = .inProgress) (command : HostCommand) : hostMove s command = none := by
  simp [hostMove, hrun]

theorem hostMove_load_of_returned {reason : StopReason} (hrun : s.run = .returned reason)
    (source : Option (List Byte)) : hostMove s (.load source) = none := by
  simp [hostMove, hrun]

theorem hostMove_load_of_notStarted (hrun : s.run = .notStarted) (source : Option (List Byte)) :
    hostMove s (.load source) = some (.loaded (s.load source).1, (s.load source).2) := by
  simp [hostMove, hrun]

/-- What the host may do whenever no run is in progress. -/
theorem hostMove_of_idle (hidle : s.run ≠ .inProgress) :
    hostMove s .init = some (.ready, State.resetWith s.cfg) ∧
      (∀ budget, hostMove s (.run budget) = some (run budget s).reply) ∧
      hostMove s .inspect = some (.fields s.inspect, s) := by
  cases hrun : s.run with
  | notStarted => simp [hostMove, hrun, State.init]
  | inProgress => exact absurd hrun hidle
  | returned reason => simp [hostMove, hrun, State.init]

end HostMoves

/-- Settles O60: a clause for each entry of the table. -/
theorem hostMovesFollowTheTable : Obligations.HostMovesFollowTheTable := by
  intro s
  refine ⟨hostMove_of_inProgress, fun _ => hostMove_load_of_returned, hostMove_load_of_notStarted, ?init, ?run,
    ?inspect⟩
  case init => exact fun hidle => (hostMove_of_idle hidle).left
  case run => exact fun hidle => (hostMove_of_idle hidle).right.left
  case inspect =>
    intro hidle
    obtain ⟨-, -, hinspect⟩ := hostMove_of_idle hidle
    exact ⟨s.inspect, hinspect, rfl, rfl, rfl, rfl, rfl, rfl, rfl, rfl, rfl, rfl⟩

end Sys2Proof.Machine
